-- ==== Sys2Proof/Word.lean ====
section
/-! DEFINITION. The word types of the CPU16 (00_scope.md R7). -/

namespace Sys2Proof

/-- A byte: the unit of addressing (20_memory.md R90). -/
abbrev Byte := BitVec 8

/-- A 16-bit word. -/
abbrev Word := BitVec 16

/-- A 20-bit address: a 4-bit bank and a 16-bit byte address (20_memory.md R90). Addition is `add20`, modulo 2^20
(log entry 9). -/
abbrev Addr := BitVec 20

/-- A 4-bit address extension field (10_state.md R55). -/
abbrev Ext := BitVec 4

/-- A 36-bit value of the MAC accumulator (10_state.md R60). -/
abbrev Acc := BitVec 36

end Sys2Proof
end

