-- ==== Sys2Proof/Config.lean ====
section
/-! DEFINITION. Free values: constants without a body, so that nothing can be proved of the value they give. Each is
applied to the counter `State.free`, which moves on at every use (log entry 42). They stand for every value that
93_implementation_defined.md treats as `any value`. -/

namespace Sys2Proof.Config

/-- A free bit: DAA's V (U5), flags of EDIV and EDIVS (U6, U7). -/
opaque freeBit : Nat → Bool

/-- A free byte: data of a read that ends in BERR (U2) or that a device answers (`MEMMAP`). -/
opaque freeByte : Nat → BitVec 8

/-- A free word: IX, D and E where the manual leaves them open (U7, U8, U10, U11, U12), and undefined bits of
background replies (U15). -/
opaque freeWord : Nat → BitVec 16

/-- A free address: PK : PC when a double bus fault enters background mode (U16). -/
opaque freeAddr : Nat → BitVec 20

end Sys2Proof.Config
end

