-- ==== Sys2Proof/Syntax.lean ====
section
/-! DEFINITION. Abstract syntax: addressing forms and one constructor of `Instr` per mnemonic of
spec/opcode_table.json. Which forms a mnemonic has is said by WellFormed.lean (log entry 1). -/

namespace Sys2Proof

/-- The index register (with its extension field) that an indexed form names: it is part of the opcode
(30_encoding.md R153). -/
inductive Ix where
  | x
  | y
  | z
  deriving DecidableEq, Repr

/-- A memory operand: the addressing modes that give an effective address in data space. -/
inductive Mem where
  /-- IND8: index pair plus an unsigned 8-bit offset (20_memory.md R111). -/
  | ind8 (i : Ix) (ff : BitVec 8)
  /-- IND16: index pair plus a signed 16-bit offset (20_memory.md R112). -/
  | ind16 (i : Ix) (gggg : BitVec 16)
  /-- EXT: the address EK : hhll (20_memory.md R113). -/
  | ext (hhll : BitVec 16)
  /-- E,X and so on: index pair plus sign-extended E (20_memory.md R116). -/
  | eoff (i : Ix)
  deriving DecidableEq, Repr

/-- A byte operand: from memory, or IMM8 (20_memory.md R117). -/
inductive Src8 where
  | mem (m : Mem)
  | imm (ii : BitVec 8)
  deriving DecidableEq, Repr

/-- A word operand: from memory, IMM16 (20_memory.md R118), or IMM8 sign-extended (20_memory.md R117 (b)). -/
inductive Src16 where
  | mem (m : Mem)
  | imm8 (ii : BitVec 8)
  | imm16 (jjkk : BitVec 16)
  deriving DecidableEq, Repr

/-- The signed immediate of AIX, AIY, AIZ, AIS in its two lengths (20_memory.md R117 (b), R118). -/
inductive Imm where
  | i8 (ii : BitVec 8)
  | i16 (jjkk : BitVec 16)
  deriving DecidableEq, Repr

/-- The offset of BRCLR and BRSET: REL8 with IND8 addressing, REL16 otherwise (45_program_control.md R514). -/
inductive Rel where
  | r8 (rr : BitVec 8)
  | r16 (rrrr : BitVec 16)
  deriving DecidableEq, Repr

/-- The target of JMP and JSR: EXT20 (20_memory.md R115) or IND20 (20_memory.md R114). -/
inductive JumpTarget where
  | ext20 (b : BitVec 4) (hhll : BitVec 16)
  | ind20 (i : Ix) (off : BitVec 20)
  deriving DecidableEq, Repr

/-- The three forms of MOVB and MOVW (40_data_movement.md R215). -/
inductive MovForm where
  | ixpToExt (ff : BitVec 8) (hhll : BitVec 16)
  | extToIxp (hhll : BitVec 16) (ff : BitVec 8)
  | extToExt (src dst : BitVec 16)
  deriving DecidableEq, Repr

/-- The instruction set, one constructor per mnemonic, family by family. -/
inductive Instr where
  -- First the mnemonics with operands, then the inherent ones, each in the order of the table.
  -- data movement (40_data_movement.md)
  | ldaa (m : Src8)
  | ldab (m : Src8)
  | ldd (m : Src16)
  | lde (m : Src16)
  | lded (hhll : BitVec 16)
  | movb (f : MovForm)
  | movw (f : MovForm)
  | staa (m : Mem)
  | stab (m : Mem)
  | std (m : Mem)
  | ste (m : Mem)
  | sted (hhll : BitVec 16)
  -- arithmetic (41_arithmetic.md)
  | adca (m : Src8)
  | adcb (m : Src8)
  | adcd (m : Src16)
  | adce (m : Src16)
  | adda (m : Src8)
  | addb (m : Src8)
  | addd (m : Src16)
  | adde (m : Src16)
  | sbca (m : Src8)
  | sbcb (m : Src8)
  | sbcd (m : Src16)
  | sbce (m : Src16)
  | suba (m : Src8)
  | subb (m : Src8)
  | subd (m : Src16)
  | sube (m : Src16)
  | cmpa (m : Src8)
  | cmpb (m : Src8)
  | cpd (m : Src16)
  | cpe (m : Src16)
  | tst (m : Mem)
  | tstw (m : Mem)
  | dec (m : Mem)
  | decw (m : Mem)
  | inc (m : Mem)
  | incw (m : Mem)
  | clr (m : Mem)
  | clrw (m : Mem)
  | com (m : Mem)
  | comw (m : Mem)
  | neg (m : Mem)
  | negw (m : Mem)
  -- logic and bits (43_logic_bit.md)
  | anda (m : Src8)
  | andb (m : Src8)
  | andd (m : Src16)
  | ande (m : Src16)
  | eora (m : Src8)
  | eorb (m : Src8)
  | eord (m : Src16)
  | eore (m : Src16)
  | oraa (m : Src8)
  | orab (m : Src8)
  | ord (m : Src16)
  | ore (m : Src16)
  | bita (m : Src8)
  | bitb (m : Src8)
  | bclr (m : Mem) (mm : BitVec 8)
  | bclrw (m : Mem) (mmmm : BitVec 16)
  | bset (m : Mem) (mm : BitVec 8)
  | bsetw (m : Mem) (mmmm : BitVec 16)
  -- shifts and rotates (44_shift_rotate.md)
  | lsr (m : Mem)
  | lsrw (m : Mem)
  | asl (m : Mem)
  | aslw (m : Mem)
  | asr (m : Mem)
  | asrw (m : Mem)
  | rol (m : Mem)
  | rolw (m : Mem)
  | ror (m : Mem)
  | rorw (m : Mem)
  -- program control (45_program_control.md)
  | bra (rr : BitVec 8)
  | brn (rr : BitVec 8)
  | bcc (rr : BitVec 8)
  | bcs (rr : BitVec 8)
  | beq (rr : BitVec 8)
  | bge (rr : BitVec 8)
  | bgt (rr : BitVec 8)
  | bhi (rr : BitVec 8)
  | ble (rr : BitVec 8)
  | bls (rr : BitVec 8)
  | blt (rr : BitVec 8)
  | bmi (rr : BitVec 8)
  | bne (rr : BitVec 8)
  | bpl (rr : BitVec 8)
  | bvc (rr : BitVec 8)
  | bvs (rr : BitVec 8)
  | lbra (rrrr : BitVec 16)
  | lbrn (rrrr : BitVec 16)
  | lbcc (rrrr : BitVec 16)
  | lbcs (rrrr : BitVec 16)
  | lbeq (rrrr : BitVec 16)
  | lbge (rrrr : BitVec 16)
  | lbgt (rrrr : BitVec 16)
  | lbhi (rrrr : BitVec 16)
  | lble (rrrr : BitVec 16)
  | lbls (rrrr : BitVec 16)
  | lblt (rrrr : BitVec 16)
  | lbmi (rrrr : BitVec 16)
  | lbne (rrrr : BitVec 16)
  | lbpl (rrrr : BitVec 16)
  | lbvc (rrrr : BitVec 16)
  | lbvs (rrrr : BitVec 16)
  | lbev (rrrr : BitVec 16)
  | lbmv (rrrr : BitVec 16)
  | brclr (m : Mem) (mm : BitVec 8) (r : Rel)
  | brset (m : Mem) (mm : BitVec 8) (r : Rel)
  | jmp (t : JumpTarget)
  | bsr (rr : BitVec 8)
  | jsr (t : JumpTarget)
  | lbsr (rrrr : BitVec 16)
  -- index, stack, CCR, stop and wait (46_index_stack_ccr.md)
  | aix (v : Imm)
  | aiy (v : Imm)
  | aiz (v : Imm)
  | cpx (m : Src16)
  | ldx (m : Src16)
  | stx (m : Mem)
  | cpy (m : Src16)
  | ldy (m : Src16)
  | sty (m : Mem)
  | cpz (m : Src16)
  | ldz (m : Src16)
  | stz (m : Mem)
  | ais (v : Imm)
  | cps (m : Src16)
  | lds (m : Src16)
  | sts (m : Mem)
  | pshm (mask : BitVec 8)
  | pulm (mask : BitVec 8)
  | andp (jjkk : BitVec 16)
  | orp (jjkk : BitVec 16)
  -- MAC unit (47_dsp.md)
  | mac (xo : BitVec 4) (yo : BitVec 4)
  | rmac (xo : BitVec 4) (yo : BitVec 4)
  -- data movement (40_data_movement.md)
  | tab
  | tba
  | tde
  | ted
  | xgab
  | xgde
  -- arithmetic (41_arithmetic.md)
  | aba
  | ade
  | sba
  | sde
  | daa
  | sxt
  | cba
  | tsta
  | tstb
  | tstd
  | tste
  | deca
  | decb
  | inca
  | incb
  | clra
  | clrb
  | clrd
  | clre
  | coma
  | comb
  | comd
  | come
  | nega
  | negb
  | negd
  | nege
  -- multiplication and division (42_mul_div.md)
  | ediv
  | edivs
  | emul
  | emuls
  | fdiv
  | fmuls
  | idiv
  | mul
  -- shifts and rotates (44_shift_rotate.md)
  | lsra
  | lsrb
  | lsrd
  | lsre
  | asla
  | aslb
  | asld
  | asle
  | asra
  | asrb
  | asrd
  | asre
  | rola
  | rolb
  | rold
  | role
  | rora
  | rorb
  | rord
  | rore
  -- program control (45_program_control.md)
  | rts
  | rti
  | swi
  -- index, stack, CCR, stop and wait (46_index_stack_ccr.md)
  | abx
  | aby
  | abz
  | adx
  | ady
  | adz
  | aex
  | aey
  | aez
  | tsx
  | tsy
  | tsz
  | txs
  | txy
  | txz
  | tys
  | tyx
  | tyz
  | tzs
  | tzx
  | tzy
  | xgdx
  | xgdy
  | xgdz
  | xgex
  | xgey
  | xgez
  | tbek
  | tbsk
  | tbxk
  | tbyk
  | tbzk
  | tekb
  | tskb
  | txkb
  | tykb
  | tzkb
  | psha
  | pshb
  | pula
  | pulb
  | tap
  | tdp
  | tpa
  | tpd
  | lpstop
  | wai
  | bgnd
  | nop
  -- MAC unit (47_dsp.md)
  | ace
  | aced
  | aslm
  | asrm
  | clrm
  | ldhi
  | pshmac
  | pulmac
  | tmer
  | tmet
  | tdmsk
  | tedm
  | tem
  | tmxed
  deriving DecidableEq, Repr

end Sys2Proof
end

