-- ==== Sys2Proof/WellFormed.lean ====
section
/-! DEFINITION. Which addressing forms each mnemonic has, as the rows of spec/opcode_table.json list them
(log entry 1). Every other operand value is legal (10_state.md R54, 30_encoding.md R166). -/

namespace Sys2Proof

/-- IND8, IND16 and EXT: the byte instructions on memory and the stores of IX, IY, IZ, SP. -/
def Mem.indexedOrExt : Mem → Bool
  | .ind8 _ _ => true
  | .ind16 _ _ => true
  | .ext _ => true
  | .eoff _ => false

/-- IND16 and EXT: the word instructions on memory and the forms of E. -/
def Mem.ind16OrExt : Mem → Bool
  | .ind8 _ _ => false
  | .ind16 _ _ => true
  | .ext _ => true
  | .eoff _ => false

/-- The operands of the instructions on D: every memory form and IMM16. -/
def Src16.formsD : Src16 → Bool
  | .mem _ => true
  | .imm8 _ => false
  | .imm16 _ => true

/-- The operands of the instructions on E: IND16, EXT and IMM16. -/
def Src16.formsE : Src16 → Bool
  | .mem m => m.ind16OrExt
  | .imm8 _ => false
  | .imm16 _ => true

/-- ADDE alone has IMM8 beside the forms of E (41_arithmetic.md R278). -/
def Src16.formsEOrImm8 : Src16 → Bool
  | .mem m => m.ind16OrExt
  | .imm8 _ => true
  | .imm16 _ => true

/-- The operands of the loads and compares of IX, IY, IZ, SP: IND8, IND16, EXT and IMM16. -/
def Src16.formsIndex : Src16 → Bool
  | .mem m => m.indexedOrExt
  | .imm8 _ => false
  | .imm16 _ => true

/-- BRCLR and BRSET pair the 8-bit offset with IND8 and the 16-bit offset with IND16 and EXT
(45_program_control.md R514). -/
def bitBranchForm : Mem → Rel → Bool
  | .ind8 _ _, .r8 _ => true
  | .ind16 _ _, .r16 _ => true
  | .ext _, .r16 _ => true
  | _, _ => false

/-- The instruction has a row of the opcode table: its operand form is one the mnemonic has. -/
def Instr.wellFormed : Instr → Bool
  | .ldaa _ => true
  | .ldab _ => true
  | .ldd m => m.formsD
  | .lde m => m.formsE
  | .lded _ => true
  | .movb _ => true
  | .movw _ => true
  | .staa _ => true
  | .stab _ => true
  | .std _ => true
  | .ste m => m.ind16OrExt
  | .sted _ => true
  | .tab => true
  | .tba => true
  | .tde => true
  | .ted => true
  | .xgab => true
  | .xgde => true
  | .aba => true
  | .adca _ => true
  | .adcb _ => true
  | .adcd m => m.formsD
  | .adce m => m.formsE
  | .adda _ => true
  | .addb _ => true
  | .addd _ => true
  | .adde m => m.formsEOrImm8
  | .ade => true
  | .sba => true
  | .sbca _ => true
  | .sbcb _ => true
  | .sbcd m => m.formsD
  | .sbce m => m.formsE
  | .sde => true
  | .suba _ => true
  | .subb _ => true
  | .subd m => m.formsD
  | .sube m => m.formsE
  | .daa => true
  | .sxt => true
  | .cba => true
  | .cmpa _ => true
  | .cmpb _ => true
  | .cpd m => m.formsD
  | .cpe m => m.formsE
  | .tst m => m.indexedOrExt
  | .tsta => true
  | .tstb => true
  | .tstd => true
  | .tste => true
  | .tstw m => m.ind16OrExt
  | .dec m => m.indexedOrExt
  | .deca => true
  | .decb => true
  | .decw m => m.ind16OrExt
  | .inc m => m.indexedOrExt
  | .inca => true
  | .incb => true
  | .incw m => m.ind16OrExt
  | .clr m => m.indexedOrExt
  | .clra => true
  | .clrb => true
  | .clrd => true
  | .clre => true
  | .clrw m => m.ind16OrExt
  | .com m => m.indexedOrExt
  | .coma => true
  | .comb => true
  | .comd => true
  | .come => true
  | .comw m => m.ind16OrExt
  | .neg m => m.indexedOrExt
  | .nega => true
  | .negb => true
  | .negd => true
  | .nege => true
  | .negw m => m.ind16OrExt
  | .ediv => true
  | .edivs => true
  | .emul => true
  | .emuls => true
  | .fdiv => true
  | .fmuls => true
  | .idiv => true
  | .mul => true
  | .anda _ => true
  | .andb _ => true
  | .andd m => m.formsD
  | .ande m => m.formsE
  | .eora _ => true
  | .eorb _ => true
  | .eord m => m.formsD
  | .eore m => m.formsE
  | .oraa _ => true
  | .orab _ => true
  | .ord m => m.formsD
  | .ore m => m.formsE
  | .bita _ => true
  | .bitb _ => true
  | .bclr m _ => m.indexedOrExt
  | .bclrw m _ => m.ind16OrExt
  | .bset m _ => m.indexedOrExt
  | .bsetw m _ => m.ind16OrExt
  | .lsr m => m.indexedOrExt
  | .lsra => true
  | .lsrb => true
  | .lsrd => true
  | .lsre => true
  | .lsrw m => m.ind16OrExt
  | .asl m => m.indexedOrExt
  | .asla => true
  | .aslb => true
  | .asld => true
  | .asle => true
  | .aslw m => m.ind16OrExt
  | .asr m => m.indexedOrExt
  | .asra => true
  | .asrb => true
  | .asrd => true
  | .asre => true
  | .asrw m => m.ind16OrExt
  | .rol m => m.indexedOrExt
  | .rola => true
  | .rolb => true
  | .rold => true
  | .role => true
  | .rolw m => m.ind16OrExt
  | .ror m => m.indexedOrExt
  | .rora => true
  | .rorb => true
  | .rord => true
  | .rore => true
  | .rorw m => m.ind16OrExt
  | .bra _ => true
  | .brn _ => true
  | .bcc _ => true
  | .bcs _ => true
  | .beq _ => true
  | .bge _ => true
  | .bgt _ => true
  | .bhi _ => true
  | .ble _ => true
  | .bls _ => true
  | .blt _ => true
  | .bmi _ => true
  | .bne _ => true
  | .bpl _ => true
  | .bvc _ => true
  | .bvs _ => true
  | .lbra _ => true
  | .lbrn _ => true
  | .lbcc _ => true
  | .lbcs _ => true
  | .lbeq _ => true
  | .lbge _ => true
  | .lbgt _ => true
  | .lbhi _ => true
  | .lble _ => true
  | .lbls _ => true
  | .lblt _ => true
  | .lbmi _ => true
  | .lbne _ => true
  | .lbpl _ => true
  | .lbvc _ => true
  | .lbvs _ => true
  | .lbev _ => true
  | .lbmv _ => true
  | .brclr m _ r => bitBranchForm m r
  | .brset m _ r => bitBranchForm m r
  | .jmp _ => true
  | .bsr _ => true
  | .jsr _ => true
  | .lbsr _ => true
  | .rts => true
  | .rti => true
  | .swi => true
  | .abx => true
  | .aby => true
  | .abz => true
  | .adx => true
  | .ady => true
  | .adz => true
  | .aex => true
  | .aey => true
  | .aez => true
  | .aix _ => true
  | .aiy _ => true
  | .aiz _ => true
  | .cpx m => m.formsIndex
  | .ldx m => m.formsIndex
  | .stx m => m.indexedOrExt
  | .cpy m => m.formsIndex
  | .ldy m => m.formsIndex
  | .sty m => m.indexedOrExt
  | .cpz m => m.formsIndex
  | .ldz m => m.formsIndex
  | .stz m => m.indexedOrExt
  | .tsx => true
  | .tsy => true
  | .tsz => true
  | .txs => true
  | .txy => true
  | .txz => true
  | .tys => true
  | .tyx => true
  | .tyz => true
  | .tzs => true
  | .tzx => true
  | .tzy => true
  | .xgdx => true
  | .xgdy => true
  | .xgdz => true
  | .xgex => true
  | .xgey => true
  | .xgez => true
  | .tbek => true
  | .tbsk => true
  | .tbxk => true
  | .tbyk => true
  | .tbzk => true
  | .tekb => true
  | .tskb => true
  | .txkb => true
  | .tykb => true
  | .tzkb => true
  | .ais _ => true
  | .cps m => m.formsIndex
  | .lds m => m.formsIndex
  | .sts m => m.indexedOrExt
  | .psha => true
  | .pshb => true
  | .pshm _ => true
  | .pula => true
  | .pulb => true
  | .pulm _ => true
  | .andp _ => true
  | .orp _ => true
  | .tap => true
  | .tdp => true
  | .tpa => true
  | .tpd => true
  | .lpstop => true
  | .wai => true
  | .bgnd => true
  | .nop => true
  | .ace => true
  | .aced => true
  | .aslm => true
  | .asrm => true
  | .clrm => true
  | .ldhi => true
  | .mac _ _ => true
  | .pshmac => true
  | .pulmac => true
  | .rmac _ _ => true
  | .tmer => true
  | .tmet => true
  | .tdmsk => true
  | .tedm => true
  | .tem => true
  | .tmxed => true

end Sys2Proof
end

