-- ==== Sys2Proof/Decode.lean ====
section
/-! DEFINITION. Decoding by the opcode table (30_encoding.md R154, opcode_table.json), then the encoder, written from the
same encodings (30_encoding.md R142 to R150). -/

namespace Sys2Proof

/-- Bits [15:8] of an instruction word. -/
def hi (w : Word) : Byte := BitVec.extractLsb' 8 8 w

/-- Bits [7:0] of an instruction word. -/
def lo (w : Word) : Byte := BitVec.extractLsb' 0 8 w

/-- Bits [7:4] of an instruction word. -/
def nib1 (w : Word) : Ext := BitVec.extractLsb' 4 4 w

/-- Bits [3:0] of an instruction word. -/
def nib0 (w : Word) : Ext := BitVec.extractLsb' 0 4 w

/-- A word from its two bytes, the first the more significant (20_memory.md R96). -/
def word (h l : Byte) : Word := h ++ l

/-- Why words are not an instruction. -/
inductive DecodeError where
  /-- No row of the opcode table matches: an unassigned opcode (30_encoding.md R165). -/
  | unassignedOpcode (w0 : Word)
  /-- Fewer bytes than the instruction has. -/
  | truncated
  deriving DecidableEq, Repr

/-- A row of the opcode table: the opcode byte within its page, and the instruction read from words W0, W1, W2. -/
abbrev Row := Byte × (Word → Word → Word → Instr)

/-- Row 0x of page 0 (the opcode is W0[15:8]), 30_encoding.md R160. -/
def page0Row0 : List Row :=
  [(0x00, fun w0 _ _ => .com (.ind8 .x (lo w0))),
   (0x01, fun w0 _ _ => .dec (.ind8 .x (lo w0))),
   (0x02, fun w0 _ _ => .neg (.ind8 .x (lo w0))),
   (0x03, fun w0 _ _ => .inc (.ind8 .x (lo w0))),
   (0x04, fun w0 _ _ => .asl (.ind8 .x (lo w0))),
   (0x05, fun w0 _ _ => .clr (.ind8 .x (lo w0))),
   (0x06, fun w0 _ _ => .tst (.ind8 .x (lo w0))),
   (0x08, fun w0 w1 _ => .bclr (.ind16 .x w1) (lo w0)),
   (0x09, fun w0 w1 _ => .bset (.ind16 .x w1) (lo w0)),
   (0x0A, fun w0 w1 w2 => .brclr (.ind16 .x w1) (lo w0) (.r16 w2)),
   (0x0B, fun w0 w1 w2 => .brset (.ind16 .x w1) (lo w0) (.r16 w2)),
   (0x0C, fun w0 _ _ => .rol (.ind8 .x (lo w0))),
   (0x0D, fun w0 _ _ => .asr (.ind8 .x (lo w0))),
   (0x0E, fun w0 _ _ => .ror (.ind8 .x (lo w0))),
   (0x0F, fun w0 _ _ => .lsr (.ind8 .x (lo w0)))]

/-- Row 1x of page 0 (the opcode is W0[15:8]), 30_encoding.md R160. -/
def page0Row1 : List Row :=
  [(0x10, fun w0 _ _ => .com (.ind8 .y (lo w0))),
   (0x11, fun w0 _ _ => .dec (.ind8 .y (lo w0))),
   (0x12, fun w0 _ _ => .neg (.ind8 .y (lo w0))),
   (0x13, fun w0 _ _ => .inc (.ind8 .y (lo w0))),
   (0x14, fun w0 _ _ => .asl (.ind8 .y (lo w0))),
   (0x15, fun w0 _ _ => .clr (.ind8 .y (lo w0))),
   (0x16, fun w0 _ _ => .tst (.ind8 .y (lo w0))),
   (0x18, fun w0 w1 _ => .bclr (.ind16 .y w1) (lo w0)),
   (0x19, fun w0 w1 _ => .bset (.ind16 .y w1) (lo w0)),
   (0x1A, fun w0 w1 w2 => .brclr (.ind16 .y w1) (lo w0) (.r16 w2)),
   (0x1B, fun w0 w1 w2 => .brset (.ind16 .y w1) (lo w0) (.r16 w2)),
   (0x1C, fun w0 _ _ => .rol (.ind8 .y (lo w0))),
   (0x1D, fun w0 _ _ => .asr (.ind8 .y (lo w0))),
   (0x1E, fun w0 _ _ => .ror (.ind8 .y (lo w0))),
   (0x1F, fun w0 _ _ => .lsr (.ind8 .y (lo w0)))]

/-- Row 2x of page 0 (the opcode is W0[15:8]), 30_encoding.md R160. -/
def page0Row2 : List Row :=
  [(0x20, fun w0 _ _ => .com (.ind8 .z (lo w0))),
   (0x21, fun w0 _ _ => .dec (.ind8 .z (lo w0))),
   (0x22, fun w0 _ _ => .neg (.ind8 .z (lo w0))),
   (0x23, fun w0 _ _ => .inc (.ind8 .z (lo w0))),
   (0x24, fun w0 _ _ => .asl (.ind8 .z (lo w0))),
   (0x25, fun w0 _ _ => .clr (.ind8 .z (lo w0))),
   (0x26, fun w0 _ _ => .tst (.ind8 .z (lo w0))),
   (0x28, fun w0 w1 _ => .bclr (.ind16 .z w1) (lo w0)),
   (0x29, fun w0 w1 _ => .bset (.ind16 .z w1) (lo w0)),
   (0x2A, fun w0 w1 w2 => .brclr (.ind16 .z w1) (lo w0) (.r16 w2)),
   (0x2B, fun w0 w1 w2 => .brset (.ind16 .z w1) (lo w0) (.r16 w2)),
   (0x2C, fun w0 _ _ => .rol (.ind8 .z (lo w0))),
   (0x2D, fun w0 _ _ => .asr (.ind8 .z (lo w0))),
   (0x2E, fun w0 _ _ => .ror (.ind8 .z (lo w0))),
   (0x2F, fun w0 _ _ => .lsr (.ind8 .z (lo w0)))]

/-- Row 3x of page 0 (the opcode is W0[15:8]), 30_encoding.md R160. -/
def page0Row3 : List Row :=
  [(0x30, fun w0 w1 _ => .movb (.ixpToExt (lo w0) w1)),
   (0x31, fun w0 w1 _ => .movw (.ixpToExt (lo w0) w1)),
   (0x32, fun w0 w1 _ => .movb (.extToIxp w1 (lo w0))),
   (0x33, fun w0 w1 _ => .movw (.extToIxp w1 (lo w0))),
   (0x34, fun w0 _ _ => .pshm (lo w0)),
   (0x35, fun w0 _ _ => .pulm (lo w0)),
   (0x36, fun w0 _ _ => .bsr (lo w0)),
   (0x38, fun w0 w1 _ => .bclr (.ext w1) (lo w0)),
   (0x39, fun w0 w1 _ => .bset (.ext w1) (lo w0)),
   (0x3A, fun w0 w1 w2 => .brclr (.ext w1) (lo w0) (.r16 w2)),
   (0x3B, fun w0 w1 w2 => .brset (.ext w1) (lo w0) (.r16 w2)),
   (0x3C, fun w0 _ _ => .aix (.i8 (lo w0))),
   (0x3D, fun w0 _ _ => .aiy (.i8 (lo w0))),
   (0x3E, fun w0 _ _ => .aiz (.i8 (lo w0))),
   (0x3F, fun w0 _ _ => .ais (.i8 (lo w0)))]

/-- Row 4x of page 0 (the opcode is W0[15:8]), 30_encoding.md R160. -/
def page0Row4 : List Row :=
  [(0x40, fun w0 _ _ => .suba (.mem (.ind8 .x (lo w0)))),
   (0x41, fun w0 _ _ => .adda (.mem (.ind8 .x (lo w0)))),
   (0x42, fun w0 _ _ => .sbca (.mem (.ind8 .x (lo w0)))),
   (0x43, fun w0 _ _ => .adca (.mem (.ind8 .x (lo w0)))),
   (0x44, fun w0 _ _ => .eora (.mem (.ind8 .x (lo w0)))),
   (0x45, fun w0 _ _ => .ldaa (.mem (.ind8 .x (lo w0)))),
   (0x46, fun w0 _ _ => .anda (.mem (.ind8 .x (lo w0)))),
   (0x47, fun w0 _ _ => .oraa (.mem (.ind8 .x (lo w0)))),
   (0x48, fun w0 _ _ => .cmpa (.mem (.ind8 .x (lo w0)))),
   (0x49, fun w0 _ _ => .bita (.mem (.ind8 .x (lo w0)))),
   (0x4A, fun w0 _ _ => .staa (.ind8 .x (lo w0))),
   (0x4B, fun w0 w1 _ => .jmp (.ind20 .x ((nib0 w0) ++ w1))),
   (0x4C, fun w0 _ _ => .cpx (.mem (.ind8 .x (lo w0)))),
   (0x4D, fun w0 _ _ => .cpy (.mem (.ind8 .x (lo w0)))),
   (0x4E, fun w0 _ _ => .cpz (.mem (.ind8 .x (lo w0)))),
   (0x4F, fun w0 _ _ => .cps (.mem (.ind8 .x (lo w0))))]

/-- Row 5x of page 0 (the opcode is W0[15:8]), 30_encoding.md R160. -/
def page0Row5 : List Row :=
  [(0x50, fun w0 _ _ => .suba (.mem (.ind8 .y (lo w0)))),
   (0x51, fun w0 _ _ => .adda (.mem (.ind8 .y (lo w0)))),
   (0x52, fun w0 _ _ => .sbca (.mem (.ind8 .y (lo w0)))),
   (0x53, fun w0 _ _ => .adca (.mem (.ind8 .y (lo w0)))),
   (0x54, fun w0 _ _ => .eora (.mem (.ind8 .y (lo w0)))),
   (0x55, fun w0 _ _ => .ldaa (.mem (.ind8 .y (lo w0)))),
   (0x56, fun w0 _ _ => .anda (.mem (.ind8 .y (lo w0)))),
   (0x57, fun w0 _ _ => .oraa (.mem (.ind8 .y (lo w0)))),
   (0x58, fun w0 _ _ => .cmpa (.mem (.ind8 .y (lo w0)))),
   (0x59, fun w0 _ _ => .bita (.mem (.ind8 .y (lo w0)))),
   (0x5A, fun w0 _ _ => .staa (.ind8 .y (lo w0))),
   (0x5B, fun w0 w1 _ => .jmp (.ind20 .y ((nib0 w0) ++ w1))),
   (0x5C, fun w0 _ _ => .cpx (.mem (.ind8 .y (lo w0)))),
   (0x5D, fun w0 _ _ => .cpy (.mem (.ind8 .y (lo w0)))),
   (0x5E, fun w0 _ _ => .cpz (.mem (.ind8 .y (lo w0)))),
   (0x5F, fun w0 _ _ => .cps (.mem (.ind8 .y (lo w0))))]

/-- Row 6x of page 0 (the opcode is W0[15:8]), 30_encoding.md R160. -/
def page0Row6 : List Row :=
  [(0x60, fun w0 _ _ => .suba (.mem (.ind8 .z (lo w0)))),
   (0x61, fun w0 _ _ => .adda (.mem (.ind8 .z (lo w0)))),
   (0x62, fun w0 _ _ => .sbca (.mem (.ind8 .z (lo w0)))),
   (0x63, fun w0 _ _ => .adca (.mem (.ind8 .z (lo w0)))),
   (0x64, fun w0 _ _ => .eora (.mem (.ind8 .z (lo w0)))),
   (0x65, fun w0 _ _ => .ldaa (.mem (.ind8 .z (lo w0)))),
   (0x66, fun w0 _ _ => .anda (.mem (.ind8 .z (lo w0)))),
   (0x67, fun w0 _ _ => .oraa (.mem (.ind8 .z (lo w0)))),
   (0x68, fun w0 _ _ => .cmpa (.mem (.ind8 .z (lo w0)))),
   (0x69, fun w0 _ _ => .bita (.mem (.ind8 .z (lo w0)))),
   (0x6A, fun w0 _ _ => .staa (.ind8 .z (lo w0))),
   (0x6B, fun w0 w1 _ => .jmp (.ind20 .z ((nib0 w0) ++ w1))),
   (0x6C, fun w0 _ _ => .cpx (.mem (.ind8 .z (lo w0)))),
   (0x6D, fun w0 _ _ => .cpy (.mem (.ind8 .z (lo w0)))),
   (0x6E, fun w0 _ _ => .cpz (.mem (.ind8 .z (lo w0)))),
   (0x6F, fun w0 _ _ => .cps (.mem (.ind8 .z (lo w0))))]

/-- Row 7x of page 0 (the opcode is W0[15:8]), 30_encoding.md R160. -/
def page0Row7 : List Row :=
  [(0x70, fun w0 _ _ => .suba (.imm (lo w0))),
   (0x71, fun w0 _ _ => .adda (.imm (lo w0))),
   (0x72, fun w0 _ _ => .sbca (.imm (lo w0))),
   (0x73, fun w0 _ _ => .adca (.imm (lo w0))),
   (0x74, fun w0 _ _ => .eora (.imm (lo w0))),
   (0x75, fun w0 _ _ => .ldaa (.imm (lo w0))),
   (0x76, fun w0 _ _ => .anda (.imm (lo w0))),
   (0x77, fun w0 _ _ => .oraa (.imm (lo w0))),
   (0x78, fun w0 _ _ => .cmpa (.imm (lo w0))),
   (0x79, fun w0 _ _ => .bita (.imm (lo w0))),
   (0x7A, fun w0 w1 _ => .jmp (.ext20 (nib0 w0) w1)),
   (0x7B, fun w0 _ _ => .mac (nib1 w0) (nib0 w0)),
   (0x7C, fun w0 _ _ => .adde (.imm8 (lo w0)))]

/-- Row 8x of page 0 (the opcode is W0[15:8]), 30_encoding.md R160. -/
def page0Row8 : List Row :=
  [(0x80, fun w0 _ _ => .subd (.mem (.ind8 .x (lo w0)))),
   (0x81, fun w0 _ _ => .addd (.mem (.ind8 .x (lo w0)))),
   (0x82, fun w0 _ _ => .sbcd (.mem (.ind8 .x (lo w0)))),
   (0x83, fun w0 _ _ => .adcd (.mem (.ind8 .x (lo w0)))),
   (0x84, fun w0 _ _ => .eord (.mem (.ind8 .x (lo w0)))),
   (0x85, fun w0 _ _ => .ldd (.mem (.ind8 .x (lo w0)))),
   (0x86, fun w0 _ _ => .andd (.mem (.ind8 .x (lo w0)))),
   (0x87, fun w0 _ _ => .ord (.mem (.ind8 .x (lo w0)))),
   (0x88, fun w0 _ _ => .cpd (.mem (.ind8 .x (lo w0)))),
   (0x89, fun w0 w1 _ => .jsr (.ind20 .x ((nib0 w0) ++ w1))),
   (0x8A, fun w0 _ _ => .std (.ind8 .x (lo w0))),
   (0x8B, fun w0 w1 _ => .brset (.ind8 .x (hi w1)) (lo w0) (.r8 (lo w1))),
   (0x8C, fun w0 _ _ => .stx (.ind8 .x (lo w0))),
   (0x8D, fun w0 _ _ => .sty (.ind8 .x (lo w0))),
   (0x8E, fun w0 _ _ => .stz (.ind8 .x (lo w0))),
   (0x8F, fun w0 _ _ => .sts (.ind8 .x (lo w0)))]

/-- Row 9x of page 0 (the opcode is W0[15:8]), 30_encoding.md R160. -/
def page0Row9 : List Row :=
  [(0x90, fun w0 _ _ => .subd (.mem (.ind8 .y (lo w0)))),
   (0x91, fun w0 _ _ => .addd (.mem (.ind8 .y (lo w0)))),
   (0x92, fun w0 _ _ => .sbcd (.mem (.ind8 .y (lo w0)))),
   (0x93, fun w0 _ _ => .adcd (.mem (.ind8 .y (lo w0)))),
   (0x94, fun w0 _ _ => .eord (.mem (.ind8 .y (lo w0)))),
   (0x95, fun w0 _ _ => .ldd (.mem (.ind8 .y (lo w0)))),
   (0x96, fun w0 _ _ => .andd (.mem (.ind8 .y (lo w0)))),
   (0x97, fun w0 _ _ => .ord (.mem (.ind8 .y (lo w0)))),
   (0x98, fun w0 _ _ => .cpd (.mem (.ind8 .y (lo w0)))),
   (0x99, fun w0 w1 _ => .jsr (.ind20 .y ((nib0 w0) ++ w1))),
   (0x9A, fun w0 _ _ => .std (.ind8 .y (lo w0))),
   (0x9B, fun w0 w1 _ => .brset (.ind8 .y (hi w1)) (lo w0) (.r8 (lo w1))),
   (0x9C, fun w0 _ _ => .stx (.ind8 .y (lo w0))),
   (0x9D, fun w0 _ _ => .sty (.ind8 .y (lo w0))),
   (0x9E, fun w0 _ _ => .stz (.ind8 .y (lo w0))),
   (0x9F, fun w0 _ _ => .sts (.ind8 .y (lo w0)))]

/-- Row Ax of page 0 (the opcode is W0[15:8]), 30_encoding.md R160. -/
def page0RowA : List Row :=
  [(0xA0, fun w0 _ _ => .subd (.mem (.ind8 .z (lo w0)))),
   (0xA1, fun w0 _ _ => .addd (.mem (.ind8 .z (lo w0)))),
   (0xA2, fun w0 _ _ => .sbcd (.mem (.ind8 .z (lo w0)))),
   (0xA3, fun w0 _ _ => .adcd (.mem (.ind8 .z (lo w0)))),
   (0xA4, fun w0 _ _ => .eord (.mem (.ind8 .z (lo w0)))),
   (0xA5, fun w0 _ _ => .ldd (.mem (.ind8 .z (lo w0)))),
   (0xA6, fun w0 _ _ => .andd (.mem (.ind8 .z (lo w0)))),
   (0xA7, fun w0 _ _ => .ord (.mem (.ind8 .z (lo w0)))),
   (0xA8, fun w0 _ _ => .cpd (.mem (.ind8 .z (lo w0)))),
   (0xA9, fun w0 w1 _ => .jsr (.ind20 .z ((nib0 w0) ++ w1))),
   (0xAA, fun w0 _ _ => .std (.ind8 .z (lo w0))),
   (0xAB, fun w0 w1 _ => .brset (.ind8 .z (hi w1)) (lo w0) (.r8 (lo w1))),
   (0xAC, fun w0 _ _ => .stx (.ind8 .z (lo w0))),
   (0xAD, fun w0 _ _ => .sty (.ind8 .z (lo w0))),
   (0xAE, fun w0 _ _ => .stz (.ind8 .z (lo w0))),
   (0xAF, fun w0 _ _ => .sts (.ind8 .z (lo w0)))]

/-- Row Bx of page 0 (the opcode is W0[15:8]), 30_encoding.md R160. -/
def page0RowB : List Row :=
  [(0xB0, fun w0 _ _ => .bra (lo w0)),
   (0xB1, fun w0 _ _ => .brn (lo w0)),
   (0xB2, fun w0 _ _ => .bhi (lo w0)),
   (0xB3, fun w0 _ _ => .bls (lo w0)),
   (0xB4, fun w0 _ _ => .bcc (lo w0)),
   (0xB5, fun w0 _ _ => .bcs (lo w0)),
   (0xB6, fun w0 _ _ => .bne (lo w0)),
   (0xB7, fun w0 _ _ => .beq (lo w0)),
   (0xB8, fun w0 _ _ => .bvc (lo w0)),
   (0xB9, fun w0 _ _ => .bvs (lo w0)),
   (0xBA, fun w0 _ _ => .bpl (lo w0)),
   (0xBB, fun w0 _ _ => .bmi (lo w0)),
   (0xBC, fun w0 _ _ => .bge (lo w0)),
   (0xBD, fun w0 _ _ => .blt (lo w0)),
   (0xBE, fun w0 _ _ => .bgt (lo w0)),
   (0xBF, fun w0 _ _ => .ble (lo w0))]

/-- Row Cx of page 0 (the opcode is W0[15:8]), 30_encoding.md R160. -/
def page0RowC : List Row :=
  [(0xC0, fun w0 _ _ => .subb (.mem (.ind8 .x (lo w0)))),
   (0xC1, fun w0 _ _ => .addb (.mem (.ind8 .x (lo w0)))),
   (0xC2, fun w0 _ _ => .sbcb (.mem (.ind8 .x (lo w0)))),
   (0xC3, fun w0 _ _ => .adcb (.mem (.ind8 .x (lo w0)))),
   (0xC4, fun w0 _ _ => .eorb (.mem (.ind8 .x (lo w0)))),
   (0xC5, fun w0 _ _ => .ldab (.mem (.ind8 .x (lo w0)))),
   (0xC6, fun w0 _ _ => .andb (.mem (.ind8 .x (lo w0)))),
   (0xC7, fun w0 _ _ => .orab (.mem (.ind8 .x (lo w0)))),
   (0xC8, fun w0 _ _ => .cmpb (.mem (.ind8 .x (lo w0)))),
   (0xC9, fun w0 _ _ => .bitb (.mem (.ind8 .x (lo w0)))),
   (0xCA, fun w0 _ _ => .stab (.ind8 .x (lo w0))),
   (0xCB, fun w0 w1 _ => .brclr (.ind8 .x (hi w1)) (lo w0) (.r8 (lo w1))),
   (0xCC, fun w0 _ _ => .ldx (.mem (.ind8 .x (lo w0)))),
   (0xCD, fun w0 _ _ => .ldy (.mem (.ind8 .x (lo w0)))),
   (0xCE, fun w0 _ _ => .ldz (.mem (.ind8 .x (lo w0)))),
   (0xCF, fun w0 _ _ => .lds (.mem (.ind8 .x (lo w0))))]

/-- Row Dx of page 0 (the opcode is W0[15:8]), 30_encoding.md R160. -/
def page0RowD : List Row :=
  [(0xD0, fun w0 _ _ => .subb (.mem (.ind8 .y (lo w0)))),
   (0xD1, fun w0 _ _ => .addb (.mem (.ind8 .y (lo w0)))),
   (0xD2, fun w0 _ _ => .sbcb (.mem (.ind8 .y (lo w0)))),
   (0xD3, fun w0 _ _ => .adcb (.mem (.ind8 .y (lo w0)))),
   (0xD4, fun w0 _ _ => .eorb (.mem (.ind8 .y (lo w0)))),
   (0xD5, fun w0 _ _ => .ldab (.mem (.ind8 .y (lo w0)))),
   (0xD6, fun w0 _ _ => .andb (.mem (.ind8 .y (lo w0)))),
   (0xD7, fun w0 _ _ => .orab (.mem (.ind8 .y (lo w0)))),
   (0xD8, fun w0 _ _ => .cmpb (.mem (.ind8 .y (lo w0)))),
   (0xD9, fun w0 _ _ => .bitb (.mem (.ind8 .y (lo w0)))),
   (0xDA, fun w0 _ _ => .stab (.ind8 .y (lo w0))),
   (0xDB, fun w0 w1 _ => .brclr (.ind8 .y (hi w1)) (lo w0) (.r8 (lo w1))),
   (0xDC, fun w0 _ _ => .ldx (.mem (.ind8 .y (lo w0)))),
   (0xDD, fun w0 _ _ => .ldy (.mem (.ind8 .y (lo w0)))),
   (0xDE, fun w0 _ _ => .ldz (.mem (.ind8 .y (lo w0)))),
   (0xDF, fun w0 _ _ => .lds (.mem (.ind8 .y (lo w0))))]

/-- Row Ex of page 0 (the opcode is W0[15:8]), 30_encoding.md R160. -/
def page0RowE : List Row :=
  [(0xE0, fun w0 _ _ => .subb (.mem (.ind8 .z (lo w0)))),
   (0xE1, fun w0 _ _ => .addb (.mem (.ind8 .z (lo w0)))),
   (0xE2, fun w0 _ _ => .sbcb (.mem (.ind8 .z (lo w0)))),
   (0xE3, fun w0 _ _ => .adcb (.mem (.ind8 .z (lo w0)))),
   (0xE4, fun w0 _ _ => .eorb (.mem (.ind8 .z (lo w0)))),
   (0xE5, fun w0 _ _ => .ldab (.mem (.ind8 .z (lo w0)))),
   (0xE6, fun w0 _ _ => .andb (.mem (.ind8 .z (lo w0)))),
   (0xE7, fun w0 _ _ => .orab (.mem (.ind8 .z (lo w0)))),
   (0xE8, fun w0 _ _ => .cmpb (.mem (.ind8 .z (lo w0)))),
   (0xE9, fun w0 _ _ => .bitb (.mem (.ind8 .z (lo w0)))),
   (0xEA, fun w0 _ _ => .stab (.ind8 .z (lo w0))),
   (0xEB, fun w0 w1 _ => .brclr (.ind8 .z (hi w1)) (lo w0) (.r8 (lo w1))),
   (0xEC, fun w0 _ _ => .ldx (.mem (.ind8 .z (lo w0)))),
   (0xED, fun w0 _ _ => .ldy (.mem (.ind8 .z (lo w0)))),
   (0xEE, fun w0 _ _ => .ldz (.mem (.ind8 .z (lo w0)))),
   (0xEF, fun w0 _ _ => .lds (.mem (.ind8 .z (lo w0))))]

/-- Row Fx of page 0 (the opcode is W0[15:8]), 30_encoding.md R160. -/
def page0RowF : List Row :=
  [(0xF0, fun w0 _ _ => .subb (.imm (lo w0))),
   (0xF1, fun w0 _ _ => .addb (.imm (lo w0))),
   (0xF2, fun w0 _ _ => .sbcb (.imm (lo w0))),
   (0xF3, fun w0 _ _ => .adcb (.imm (lo w0))),
   (0xF4, fun w0 _ _ => .eorb (.imm (lo w0))),
   (0xF5, fun w0 _ _ => .ldab (.imm (lo w0))),
   (0xF6, fun w0 _ _ => .andb (.imm (lo w0))),
   (0xF7, fun w0 _ _ => .orab (.imm (lo w0))),
   (0xF8, fun w0 _ _ => .cmpb (.imm (lo w0))),
   (0xF9, fun w0 _ _ => .bitb (.imm (lo w0))),
   (0xFA, fun w0 w1 _ => .jsr (.ext20 (nib0 w0) w1)),
   (0xFB, fun w0 _ _ => .rmac (nib1 w0) (nib0 w0)),
   (0xFC, fun w0 _ _ => .addd (.imm8 (lo w0)))]

/-- Row 0x of page 1 (prebyte $17), 30_encoding.md R161. -/
def page1Row0 : List Row :=
  [(0x00, fun _ w1 _ => .com (.ind16 .x w1)),
   (0x01, fun _ w1 _ => .dec (.ind16 .x w1)),
   (0x02, fun _ w1 _ => .neg (.ind16 .x w1)),
   (0x03, fun _ w1 _ => .inc (.ind16 .x w1)),
   (0x04, fun _ w1 _ => .asl (.ind16 .x w1)),
   (0x05, fun _ w1 _ => .clr (.ind16 .x w1)),
   (0x06, fun _ w1 _ => .tst (.ind16 .x w1)),
   (0x08, fun _ w1 _ => .bclr (.ind8 .x (lo w1)) (hi w1)),
   (0x09, fun _ w1 _ => .bset (.ind8 .x (lo w1)) (hi w1)),
   (0x0C, fun _ w1 _ => .rol (.ind16 .x w1)),
   (0x0D, fun _ w1 _ => .asr (.ind16 .x w1)),
   (0x0E, fun _ w1 _ => .ror (.ind16 .x w1)),
   (0x0F, fun _ w1 _ => .lsr (.ind16 .x w1))]

/-- Row 1x of page 1 (prebyte $17), 30_encoding.md R161. -/
def page1Row1 : List Row :=
  [(0x10, fun _ w1 _ => .com (.ind16 .y w1)),
   (0x11, fun _ w1 _ => .dec (.ind16 .y w1)),
   (0x12, fun _ w1 _ => .neg (.ind16 .y w1)),
   (0x13, fun _ w1 _ => .inc (.ind16 .y w1)),
   (0x14, fun _ w1 _ => .asl (.ind16 .y w1)),
   (0x15, fun _ w1 _ => .clr (.ind16 .y w1)),
   (0x16, fun _ w1 _ => .tst (.ind16 .y w1)),
   (0x18, fun _ w1 _ => .bclr (.ind8 .y (lo w1)) (hi w1)),
   (0x19, fun _ w1 _ => .bset (.ind8 .y (lo w1)) (hi w1)),
   (0x1C, fun _ w1 _ => .rol (.ind16 .y w1)),
   (0x1D, fun _ w1 _ => .asr (.ind16 .y w1)),
   (0x1E, fun _ w1 _ => .ror (.ind16 .y w1)),
   (0x1F, fun _ w1 _ => .lsr (.ind16 .y w1))]

/-- Row 2x of page 1 (prebyte $17), 30_encoding.md R161. -/
def page1Row2 : List Row :=
  [(0x20, fun _ w1 _ => .com (.ind16 .z w1)),
   (0x21, fun _ w1 _ => .dec (.ind16 .z w1)),
   (0x22, fun _ w1 _ => .neg (.ind16 .z w1)),
   (0x23, fun _ w1 _ => .inc (.ind16 .z w1)),
   (0x24, fun _ w1 _ => .asl (.ind16 .z w1)),
   (0x25, fun _ w1 _ => .clr (.ind16 .z w1)),
   (0x26, fun _ w1 _ => .tst (.ind16 .z w1)),
   (0x28, fun _ w1 _ => .bclr (.ind8 .z (lo w1)) (hi w1)),
   (0x29, fun _ w1 _ => .bset (.ind8 .z (lo w1)) (hi w1)),
   (0x2C, fun _ w1 _ => .rol (.ind16 .z w1)),
   (0x2D, fun _ w1 _ => .asr (.ind16 .z w1)),
   (0x2E, fun _ w1 _ => .ror (.ind16 .z w1)),
   (0x2F, fun _ w1 _ => .lsr (.ind16 .z w1))]

/-- Row 3x of page 1 (prebyte $17), 30_encoding.md R161. -/
def page1Row3 : List Row :=
  [(0x30, fun _ w1 _ => .com (.ext w1)),
   (0x31, fun _ w1 _ => .dec (.ext w1)),
   (0x32, fun _ w1 _ => .neg (.ext w1)),
   (0x33, fun _ w1 _ => .inc (.ext w1)),
   (0x34, fun _ w1 _ => .asl (.ext w1)),
   (0x35, fun _ w1 _ => .clr (.ext w1)),
   (0x36, fun _ w1 _ => .tst (.ext w1)),
   (0x3C, fun _ w1 _ => .rol (.ext w1)),
   (0x3D, fun _ w1 _ => .asr (.ext w1)),
   (0x3E, fun _ w1 _ => .ror (.ext w1)),
   (0x3F, fun _ w1 _ => .lsr (.ext w1))]

/-- Row 4x of page 1 (prebyte $17), 30_encoding.md R161. -/
def page1Row4 : List Row :=
  [(0x40, fun _ w1 _ => .suba (.mem (.ind16 .x w1))),
   (0x41, fun _ w1 _ => .adda (.mem (.ind16 .x w1))),
   (0x42, fun _ w1 _ => .sbca (.mem (.ind16 .x w1))),
   (0x43, fun _ w1 _ => .adca (.mem (.ind16 .x w1))),
   (0x44, fun _ w1 _ => .eora (.mem (.ind16 .x w1))),
   (0x45, fun _ w1 _ => .ldaa (.mem (.ind16 .x w1))),
   (0x46, fun _ w1 _ => .anda (.mem (.ind16 .x w1))),
   (0x47, fun _ w1 _ => .oraa (.mem (.ind16 .x w1))),
   (0x48, fun _ w1 _ => .cmpa (.mem (.ind16 .x w1))),
   (0x49, fun _ w1 _ => .bita (.mem (.ind16 .x w1))),
   (0x4A, fun _ w1 _ => .staa (.ind16 .x w1)),
   (0x4C, fun _ w1 _ => .cpx (.mem (.ind16 .x w1))),
   (0x4D, fun _ w1 _ => .cpy (.mem (.ind16 .x w1))),
   (0x4E, fun _ w1 _ => .cpz (.mem (.ind16 .x w1))),
   (0x4F, fun _ w1 _ => .cps (.mem (.ind16 .x w1)))]

/-- Row 5x of page 1 (prebyte $17), 30_encoding.md R161. -/
def page1Row5 : List Row :=
  [(0x50, fun _ w1 _ => .suba (.mem (.ind16 .y w1))),
   (0x51, fun _ w1 _ => .adda (.mem (.ind16 .y w1))),
   (0x52, fun _ w1 _ => .sbca (.mem (.ind16 .y w1))),
   (0x53, fun _ w1 _ => .adca (.mem (.ind16 .y w1))),
   (0x54, fun _ w1 _ => .eora (.mem (.ind16 .y w1))),
   (0x55, fun _ w1 _ => .ldaa (.mem (.ind16 .y w1))),
   (0x56, fun _ w1 _ => .anda (.mem (.ind16 .y w1))),
   (0x57, fun _ w1 _ => .oraa (.mem (.ind16 .y w1))),
   (0x58, fun _ w1 _ => .cmpa (.mem (.ind16 .y w1))),
   (0x59, fun _ w1 _ => .bita (.mem (.ind16 .y w1))),
   (0x5A, fun _ w1 _ => .staa (.ind16 .y w1)),
   (0x5C, fun _ w1 _ => .cpx (.mem (.ind16 .y w1))),
   (0x5D, fun _ w1 _ => .cpy (.mem (.ind16 .y w1))),
   (0x5E, fun _ w1 _ => .cpz (.mem (.ind16 .y w1))),
   (0x5F, fun _ w1 _ => .cps (.mem (.ind16 .y w1)))]

/-- Row 6x of page 1 (prebyte $17), 30_encoding.md R161. -/
def page1Row6 : List Row :=
  [(0x60, fun _ w1 _ => .suba (.mem (.ind16 .z w1))),
   (0x61, fun _ w1 _ => .adda (.mem (.ind16 .z w1))),
   (0x62, fun _ w1 _ => .sbca (.mem (.ind16 .z w1))),
   (0x63, fun _ w1 _ => .adca (.mem (.ind16 .z w1))),
   (0x64, fun _ w1 _ => .eora (.mem (.ind16 .z w1))),
   (0x65, fun _ w1 _ => .ldaa (.mem (.ind16 .z w1))),
   (0x66, fun _ w1 _ => .anda (.mem (.ind16 .z w1))),
   (0x67, fun _ w1 _ => .oraa (.mem (.ind16 .z w1))),
   (0x68, fun _ w1 _ => .cmpa (.mem (.ind16 .z w1))),
   (0x69, fun _ w1 _ => .bita (.mem (.ind16 .z w1))),
   (0x6A, fun _ w1 _ => .staa (.ind16 .z w1)),
   (0x6C, fun _ w1 _ => .cpx (.mem (.ind16 .z w1))),
   (0x6D, fun _ w1 _ => .cpy (.mem (.ind16 .z w1))),
   (0x6E, fun _ w1 _ => .cpz (.mem (.ind16 .z w1))),
   (0x6F, fun _ w1 _ => .cps (.mem (.ind16 .z w1)))]

/-- Row 7x of page 1 (prebyte $17), 30_encoding.md R161. -/
def page1Row7 : List Row :=
  [(0x70, fun _ w1 _ => .suba (.mem (.ext w1))),
   (0x71, fun _ w1 _ => .adda (.mem (.ext w1))),
   (0x72, fun _ w1 _ => .sbca (.mem (.ext w1))),
   (0x73, fun _ w1 _ => .adca (.mem (.ext w1))),
   (0x74, fun _ w1 _ => .eora (.mem (.ext w1))),
   (0x75, fun _ w1 _ => .ldaa (.mem (.ext w1))),
   (0x76, fun _ w1 _ => .anda (.mem (.ext w1))),
   (0x77, fun _ w1 _ => .oraa (.mem (.ext w1))),
   (0x78, fun _ w1 _ => .cmpa (.mem (.ext w1))),
   (0x79, fun _ w1 _ => .bita (.mem (.ext w1))),
   (0x7A, fun _ w1 _ => .staa (.ext w1)),
   (0x7C, fun _ w1 _ => .cpx (.mem (.ext w1))),
   (0x7D, fun _ w1 _ => .cpy (.mem (.ext w1))),
   (0x7E, fun _ w1 _ => .cpz (.mem (.ext w1))),
   (0x7F, fun _ w1 _ => .cps (.mem (.ext w1)))]

/-- Row 8x of page 1 (prebyte $17), 30_encoding.md R161. -/
def page1Row8 : List Row :=
  [(0x8C, fun _ w1 _ => .stx (.ind16 .x w1)),
   (0x8D, fun _ w1 _ => .sty (.ind16 .x w1)),
   (0x8E, fun _ w1 _ => .stz (.ind16 .x w1)),
   (0x8F, fun _ w1 _ => .sts (.ind16 .x w1))]

/-- Row 9x of page 1 (prebyte $17), 30_encoding.md R161. -/
def page1Row9 : List Row :=
  [(0x9C, fun _ w1 _ => .stx (.ind16 .y w1)),
   (0x9D, fun _ w1 _ => .sty (.ind16 .y w1)),
   (0x9E, fun _ w1 _ => .stz (.ind16 .y w1)),
   (0x9F, fun _ w1 _ => .sts (.ind16 .y w1))]

/-- Row Ax of page 1 (prebyte $17), 30_encoding.md R161. -/
def page1RowA : List Row :=
  [(0xAC, fun _ w1 _ => .stx (.ind16 .z w1)),
   (0xAD, fun _ w1 _ => .sty (.ind16 .z w1)),
   (0xAE, fun _ w1 _ => .stz (.ind16 .z w1)),
   (0xAF, fun _ w1 _ => .sts (.ind16 .z w1))]

/-- Row Bx of page 1 (prebyte $17), 30_encoding.md R161. -/
def page1RowB : List Row :=
  [(0xBC, fun _ w1 _ => .stx (.ext w1)),
   (0xBD, fun _ w1 _ => .sty (.ext w1)),
   (0xBE, fun _ w1 _ => .stz (.ext w1)),
   (0xBF, fun _ w1 _ => .sts (.ext w1))]

/-- Row Cx of page 1 (prebyte $17), 30_encoding.md R161. -/
def page1RowC : List Row :=
  [(0xC0, fun _ w1 _ => .subb (.mem (.ind16 .x w1))),
   (0xC1, fun _ w1 _ => .addb (.mem (.ind16 .x w1))),
   (0xC2, fun _ w1 _ => .sbcb (.mem (.ind16 .x w1))),
   (0xC3, fun _ w1 _ => .adcb (.mem (.ind16 .x w1))),
   (0xC4, fun _ w1 _ => .eorb (.mem (.ind16 .x w1))),
   (0xC5, fun _ w1 _ => .ldab (.mem (.ind16 .x w1))),
   (0xC6, fun _ w1 _ => .andb (.mem (.ind16 .x w1))),
   (0xC7, fun _ w1 _ => .orab (.mem (.ind16 .x w1))),
   (0xC8, fun _ w1 _ => .cmpb (.mem (.ind16 .x w1))),
   (0xC9, fun _ w1 _ => .bitb (.mem (.ind16 .x w1))),
   (0xCA, fun _ w1 _ => .stab (.ind16 .x w1)),
   (0xCC, fun _ w1 _ => .ldx (.mem (.ind16 .x w1))),
   (0xCD, fun _ w1 _ => .ldy (.mem (.ind16 .x w1))),
   (0xCE, fun _ w1 _ => .ldz (.mem (.ind16 .x w1))),
   (0xCF, fun _ w1 _ => .lds (.mem (.ind16 .x w1)))]

/-- Row Dx of page 1 (prebyte $17), 30_encoding.md R161. -/
def page1RowD : List Row :=
  [(0xD0, fun _ w1 _ => .subb (.mem (.ind16 .y w1))),
   (0xD1, fun _ w1 _ => .addb (.mem (.ind16 .y w1))),
   (0xD2, fun _ w1 _ => .sbcb (.mem (.ind16 .y w1))),
   (0xD3, fun _ w1 _ => .adcb (.mem (.ind16 .y w1))),
   (0xD4, fun _ w1 _ => .eorb (.mem (.ind16 .y w1))),
   (0xD5, fun _ w1 _ => .ldab (.mem (.ind16 .y w1))),
   (0xD6, fun _ w1 _ => .andb (.mem (.ind16 .y w1))),
   (0xD7, fun _ w1 _ => .orab (.mem (.ind16 .y w1))),
   (0xD8, fun _ w1 _ => .cmpb (.mem (.ind16 .y w1))),
   (0xD9, fun _ w1 _ => .bitb (.mem (.ind16 .y w1))),
   (0xDA, fun _ w1 _ => .stab (.ind16 .y w1)),
   (0xDC, fun _ w1 _ => .ldx (.mem (.ind16 .y w1))),
   (0xDD, fun _ w1 _ => .ldy (.mem (.ind16 .y w1))),
   (0xDE, fun _ w1 _ => .ldz (.mem (.ind16 .y w1))),
   (0xDF, fun _ w1 _ => .lds (.mem (.ind16 .y w1)))]

/-- Row Ex of page 1 (prebyte $17), 30_encoding.md R161. -/
def page1RowE : List Row :=
  [(0xE0, fun _ w1 _ => .subb (.mem (.ind16 .z w1))),
   (0xE1, fun _ w1 _ => .addb (.mem (.ind16 .z w1))),
   (0xE2, fun _ w1 _ => .sbcb (.mem (.ind16 .z w1))),
   (0xE3, fun _ w1 _ => .adcb (.mem (.ind16 .z w1))),
   (0xE4, fun _ w1 _ => .eorb (.mem (.ind16 .z w1))),
   (0xE5, fun _ w1 _ => .ldab (.mem (.ind16 .z w1))),
   (0xE6, fun _ w1 _ => .andb (.mem (.ind16 .z w1))),
   (0xE7, fun _ w1 _ => .orab (.mem (.ind16 .z w1))),
   (0xE8, fun _ w1 _ => .cmpb (.mem (.ind16 .z w1))),
   (0xE9, fun _ w1 _ => .bitb (.mem (.ind16 .z w1))),
   (0xEA, fun _ w1 _ => .stab (.ind16 .z w1)),
   (0xEC, fun _ w1 _ => .ldx (.mem (.ind16 .z w1))),
   (0xED, fun _ w1 _ => .ldy (.mem (.ind16 .z w1))),
   (0xEE, fun _ w1 _ => .ldz (.mem (.ind16 .z w1))),
   (0xEF, fun _ w1 _ => .lds (.mem (.ind16 .z w1)))]

/-- Row Fx of page 1 (prebyte $17), 30_encoding.md R161. -/
def page1RowF : List Row :=
  [(0xF0, fun _ w1 _ => .subb (.mem (.ext w1))),
   (0xF1, fun _ w1 _ => .addb (.mem (.ext w1))),
   (0xF2, fun _ w1 _ => .sbcb (.mem (.ext w1))),
   (0xF3, fun _ w1 _ => .adcb (.mem (.ext w1))),
   (0xF4, fun _ w1 _ => .eorb (.mem (.ext w1))),
   (0xF5, fun _ w1 _ => .ldab (.mem (.ext w1))),
   (0xF6, fun _ w1 _ => .andb (.mem (.ext w1))),
   (0xF7, fun _ w1 _ => .orab (.mem (.ext w1))),
   (0xF8, fun _ w1 _ => .cmpb (.mem (.ext w1))),
   (0xF9, fun _ w1 _ => .bitb (.mem (.ext w1))),
   (0xFA, fun _ w1 _ => .stab (.ext w1)),
   (0xFC, fun _ w1 _ => .ldx (.mem (.ext w1))),
   (0xFD, fun _ w1 _ => .ldy (.mem (.ext w1))),
   (0xFE, fun _ w1 _ => .ldz (.mem (.ext w1))),
   (0xFF, fun _ w1 _ => .lds (.mem (.ext w1)))]

/-- Row 0x of page 2 (prebyte $27), 30_encoding.md R162. -/
def page2Row0 : List Row :=
  [(0x00, fun _ w1 _ => .comw (.ind16 .x w1)),
   (0x01, fun _ w1 _ => .decw (.ind16 .x w1)),
   (0x02, fun _ w1 _ => .negw (.ind16 .x w1)),
   (0x03, fun _ w1 _ => .incw (.ind16 .x w1)),
   (0x04, fun _ w1 _ => .aslw (.ind16 .x w1)),
   (0x05, fun _ w1 _ => .clrw (.ind16 .x w1)),
   (0x06, fun _ w1 _ => .tstw (.ind16 .x w1)),
   (0x08, fun _ w1 w2 => .bclrw (.ind16 .x w1) w2),
   (0x09, fun _ w1 w2 => .bsetw (.ind16 .x w1) w2),
   (0x0C, fun _ w1 _ => .rolw (.ind16 .x w1)),
   (0x0D, fun _ w1 _ => .asrw (.ind16 .x w1)),
   (0x0E, fun _ w1 _ => .rorw (.ind16 .x w1)),
   (0x0F, fun _ w1 _ => .lsrw (.ind16 .x w1))]

/-- Row 1x of page 2 (prebyte $27), 30_encoding.md R162. -/
def page2Row1 : List Row :=
  [(0x10, fun _ w1 _ => .comw (.ind16 .y w1)),
   (0x11, fun _ w1 _ => .decw (.ind16 .y w1)),
   (0x12, fun _ w1 _ => .negw (.ind16 .y w1)),
   (0x13, fun _ w1 _ => .incw (.ind16 .y w1)),
   (0x14, fun _ w1 _ => .aslw (.ind16 .y w1)),
   (0x15, fun _ w1 _ => .clrw (.ind16 .y w1)),
   (0x16, fun _ w1 _ => .tstw (.ind16 .y w1)),
   (0x18, fun _ w1 w2 => .bclrw (.ind16 .y w1) w2),
   (0x19, fun _ w1 w2 => .bsetw (.ind16 .y w1) w2),
   (0x1C, fun _ w1 _ => .rolw (.ind16 .y w1)),
   (0x1D, fun _ w1 _ => .asrw (.ind16 .y w1)),
   (0x1E, fun _ w1 _ => .rorw (.ind16 .y w1)),
   (0x1F, fun _ w1 _ => .lsrw (.ind16 .y w1))]

/-- Row 2x of page 2 (prebyte $27), 30_encoding.md R162. -/
def page2Row2 : List Row :=
  [(0x20, fun _ w1 _ => .comw (.ind16 .z w1)),
   (0x21, fun _ w1 _ => .decw (.ind16 .z w1)),
   (0x22, fun _ w1 _ => .negw (.ind16 .z w1)),
   (0x23, fun _ w1 _ => .incw (.ind16 .z w1)),
   (0x24, fun _ w1 _ => .aslw (.ind16 .z w1)),
   (0x25, fun _ w1 _ => .clrw (.ind16 .z w1)),
   (0x26, fun _ w1 _ => .tstw (.ind16 .z w1)),
   (0x28, fun _ w1 w2 => .bclrw (.ind16 .z w1) w2),
   (0x29, fun _ w1 w2 => .bsetw (.ind16 .z w1) w2),
   (0x2C, fun _ w1 _ => .rolw (.ind16 .z w1)),
   (0x2D, fun _ w1 _ => .asrw (.ind16 .z w1)),
   (0x2E, fun _ w1 _ => .rorw (.ind16 .z w1)),
   (0x2F, fun _ w1 _ => .lsrw (.ind16 .z w1))]

/-- Row 3x of page 2 (prebyte $27), 30_encoding.md R162. -/
def page2Row3 : List Row :=
  [(0x30, fun _ w1 _ => .comw (.ext w1)),
   (0x31, fun _ w1 _ => .decw (.ext w1)),
   (0x32, fun _ w1 _ => .negw (.ext w1)),
   (0x33, fun _ w1 _ => .incw (.ext w1)),
   (0x34, fun _ w1 _ => .aslw (.ext w1)),
   (0x35, fun _ w1 _ => .clrw (.ext w1)),
   (0x36, fun _ w1 _ => .tstw (.ext w1)),
   (0x38, fun _ w1 w2 => .bclrw (.ext w1) w2),
   (0x39, fun _ w1 w2 => .bsetw (.ext w1) w2),
   (0x3C, fun _ w1 _ => .rolw (.ext w1)),
   (0x3D, fun _ w1 _ => .asrw (.ext w1)),
   (0x3E, fun _ w1 _ => .rorw (.ext w1)),
   (0x3F, fun _ w1 _ => .lsrw (.ext w1))]

/-- Row 4x of page 2 (prebyte $27), 30_encoding.md R162. -/
def page2Row4 : List Row :=
  [(0x40, fun _ _ _ => .suba (.mem (.eoff .x))),
   (0x41, fun _ _ _ => .adda (.mem (.eoff .x))),
   (0x42, fun _ _ _ => .sbca (.mem (.eoff .x))),
   (0x43, fun _ _ _ => .adca (.mem (.eoff .x))),
   (0x44, fun _ _ _ => .eora (.mem (.eoff .x))),
   (0x45, fun _ _ _ => .ldaa (.mem (.eoff .x))),
   (0x46, fun _ _ _ => .anda (.mem (.eoff .x))),
   (0x47, fun _ _ _ => .oraa (.mem (.eoff .x))),
   (0x48, fun _ _ _ => .cmpa (.mem (.eoff .x))),
   (0x49, fun _ _ _ => .bita (.mem (.eoff .x))),
   (0x4A, fun _ _ _ => .staa (.eoff .x)),
   (0x4C, fun _ _ _ => .nop),
   (0x4D, fun _ _ _ => .tyx),
   (0x4E, fun _ _ _ => .tzx),
   (0x4F, fun _ _ _ => .tsx)]

/-- Row 5x of page 2 (prebyte $27), 30_encoding.md R162. -/
def page2Row5 : List Row :=
  [(0x50, fun _ _ _ => .suba (.mem (.eoff .y))),
   (0x51, fun _ _ _ => .adda (.mem (.eoff .y))),
   (0x52, fun _ _ _ => .sbca (.mem (.eoff .y))),
   (0x53, fun _ _ _ => .adca (.mem (.eoff .y))),
   (0x54, fun _ _ _ => .eora (.mem (.eoff .y))),
   (0x55, fun _ _ _ => .ldaa (.mem (.eoff .y))),
   (0x56, fun _ _ _ => .anda (.mem (.eoff .y))),
   (0x57, fun _ _ _ => .oraa (.mem (.eoff .y))),
   (0x58, fun _ _ _ => .cmpa (.mem (.eoff .y))),
   (0x59, fun _ _ _ => .bita (.mem (.eoff .y))),
   (0x5A, fun _ _ _ => .staa (.eoff .y)),
   (0x5C, fun _ _ _ => .txy),
   (0x5E, fun _ _ _ => .tzy),
   (0x5F, fun _ _ _ => .tsy)]

/-- Row 6x of page 2 (prebyte $27), 30_encoding.md R162. -/
def page2Row6 : List Row :=
  [(0x60, fun _ _ _ => .suba (.mem (.eoff .z))),
   (0x61, fun _ _ _ => .adda (.mem (.eoff .z))),
   (0x62, fun _ _ _ => .sbca (.mem (.eoff .z))),
   (0x63, fun _ _ _ => .adca (.mem (.eoff .z))),
   (0x64, fun _ _ _ => .eora (.mem (.eoff .z))),
   (0x65, fun _ _ _ => .ldaa (.mem (.eoff .z))),
   (0x66, fun _ _ _ => .anda (.mem (.eoff .z))),
   (0x67, fun _ _ _ => .oraa (.mem (.eoff .z))),
   (0x68, fun _ _ _ => .cmpa (.mem (.eoff .z))),
   (0x69, fun _ _ _ => .bita (.mem (.eoff .z))),
   (0x6A, fun _ _ _ => .staa (.eoff .z)),
   (0x6C, fun _ _ _ => .txz),
   (0x6D, fun _ _ _ => .tyz),
   (0x6F, fun _ _ _ => .tsz)]

/-- Row 7x of page 2 (prebyte $27), 30_encoding.md R162. -/
def page2Row7 : List Row :=
  [(0x70, fun _ _ _ => .come),
   (0x71, fun _ w1 _ => .lded w1),
   (0x72, fun _ _ _ => .nege),
   (0x73, fun _ w1 _ => .sted w1),
   (0x74, fun _ _ _ => .asle),
   (0x75, fun _ _ _ => .clre),
   (0x76, fun _ _ _ => .tste),
   (0x77, fun _ _ _ => .rti),
   (0x78, fun _ _ _ => .ade),
   (0x79, fun _ _ _ => .sde),
   (0x7A, fun _ _ _ => .xgde),
   (0x7B, fun _ _ _ => .tde),
   (0x7C, fun _ _ _ => .role),
   (0x7D, fun _ _ _ => .asre),
   (0x7E, fun _ _ _ => .rore),
   (0x7F, fun _ _ _ => .lsre)]

/-- Row 8x of page 2 (prebyte $27), 30_encoding.md R162. -/
def page2Row8 : List Row :=
  [(0x80, fun _ _ _ => .subd (.mem (.eoff .x))),
   (0x81, fun _ _ _ => .addd (.mem (.eoff .x))),
   (0x82, fun _ _ _ => .sbcd (.mem (.eoff .x))),
   (0x83, fun _ _ _ => .adcd (.mem (.eoff .x))),
   (0x84, fun _ _ _ => .eord (.mem (.eoff .x))),
   (0x85, fun _ _ _ => .ldd (.mem (.eoff .x))),
   (0x86, fun _ _ _ => .andd (.mem (.eoff .x))),
   (0x87, fun _ _ _ => .ord (.mem (.eoff .x))),
   (0x88, fun _ _ _ => .cpd (.mem (.eoff .x))),
   (0x8A, fun _ _ _ => .std (.eoff .x))]

/-- Row 9x of page 2 (prebyte $27), 30_encoding.md R162. -/
def page2Row9 : List Row :=
  [(0x90, fun _ _ _ => .subd (.mem (.eoff .y))),
   (0x91, fun _ _ _ => .addd (.mem (.eoff .y))),
   (0x92, fun _ _ _ => .sbcd (.mem (.eoff .y))),
   (0x93, fun _ _ _ => .adcd (.mem (.eoff .y))),
   (0x94, fun _ _ _ => .eord (.mem (.eoff .y))),
   (0x95, fun _ _ _ => .ldd (.mem (.eoff .y))),
   (0x96, fun _ _ _ => .andd (.mem (.eoff .y))),
   (0x97, fun _ _ _ => .ord (.mem (.eoff .y))),
   (0x98, fun _ _ _ => .cpd (.mem (.eoff .y))),
   (0x9A, fun _ _ _ => .std (.eoff .y))]

/-- Row Ax of page 2 (prebyte $27), 30_encoding.md R162. -/
def page2RowA : List Row :=
  [(0xA0, fun _ _ _ => .subd (.mem (.eoff .z))),
   (0xA1, fun _ _ _ => .addd (.mem (.eoff .z))),
   (0xA2, fun _ _ _ => .sbcd (.mem (.eoff .z))),
   (0xA3, fun _ _ _ => .adcd (.mem (.eoff .z))),
   (0xA4, fun _ _ _ => .eord (.mem (.eoff .z))),
   (0xA5, fun _ _ _ => .ldd (.mem (.eoff .z))),
   (0xA6, fun _ _ _ => .andd (.mem (.eoff .z))),
   (0xA7, fun _ _ _ => .ord (.mem (.eoff .z))),
   (0xA8, fun _ _ _ => .cpd (.mem (.eoff .z))),
   (0xAA, fun _ _ _ => .std (.eoff .z))]

/-- Row Bx of page 2 (prebyte $27), 30_encoding.md R162. -/
def page2RowB : List Row :=
  [(0xB0, fun _ _ _ => .ldhi),
   (0xB1, fun _ _ _ => .tedm),
   (0xB2, fun _ _ _ => .tem),
   (0xB3, fun _ _ _ => .tmxed),
   (0xB4, fun _ _ _ => .tmer),
   (0xB5, fun _ _ _ => .tmet),
   (0xB6, fun _ _ _ => .aslm),
   (0xB7, fun _ _ _ => .clrm),
   (0xB8, fun _ _ _ => .pshmac),
   (0xB9, fun _ _ _ => .pulmac),
   (0xBA, fun _ _ _ => .asrm),
   (0xBB, fun _ _ _ => .tekb)]

/-- Row Cx of page 2 (prebyte $27), 30_encoding.md R162. -/
def page2RowC : List Row :=
  [(0xC0, fun _ _ _ => .subb (.mem (.eoff .x))),
   (0xC1, fun _ _ _ => .addb (.mem (.eoff .x))),
   (0xC2, fun _ _ _ => .sbcb (.mem (.eoff .x))),
   (0xC3, fun _ _ _ => .adcb (.mem (.eoff .x))),
   (0xC4, fun _ _ _ => .eorb (.mem (.eoff .x))),
   (0xC5, fun _ _ _ => .ldab (.mem (.eoff .x))),
   (0xC6, fun _ _ _ => .andb (.mem (.eoff .x))),
   (0xC7, fun _ _ _ => .orab (.mem (.eoff .x))),
   (0xC8, fun _ _ _ => .cmpb (.mem (.eoff .x))),
   (0xC9, fun _ _ _ => .bitb (.mem (.eoff .x))),
   (0xCA, fun _ _ _ => .stab (.eoff .x))]

/-- Row Dx of page 2 (prebyte $27), 30_encoding.md R162. -/
def page2RowD : List Row :=
  [(0xD0, fun _ _ _ => .subb (.mem (.eoff .y))),
   (0xD1, fun _ _ _ => .addb (.mem (.eoff .y))),
   (0xD2, fun _ _ _ => .sbcb (.mem (.eoff .y))),
   (0xD3, fun _ _ _ => .adcb (.mem (.eoff .y))),
   (0xD4, fun _ _ _ => .eorb (.mem (.eoff .y))),
   (0xD5, fun _ _ _ => .ldab (.mem (.eoff .y))),
   (0xD6, fun _ _ _ => .andb (.mem (.eoff .y))),
   (0xD7, fun _ _ _ => .orab (.mem (.eoff .y))),
   (0xD8, fun _ _ _ => .cmpb (.mem (.eoff .y))),
   (0xD9, fun _ _ _ => .bitb (.mem (.eoff .y))),
   (0xDA, fun _ _ _ => .stab (.eoff .y))]

/-- Row Ex of page 2 (prebyte $27), 30_encoding.md R162. -/
def page2RowE : List Row :=
  [(0xE0, fun _ _ _ => .subb (.mem (.eoff .z))),
   (0xE1, fun _ _ _ => .addb (.mem (.eoff .z))),
   (0xE2, fun _ _ _ => .sbcb (.mem (.eoff .z))),
   (0xE3, fun _ _ _ => .adcb (.mem (.eoff .z))),
   (0xE4, fun _ _ _ => .eorb (.mem (.eoff .z))),
   (0xE5, fun _ _ _ => .ldab (.mem (.eoff .z))),
   (0xE6, fun _ _ _ => .andb (.mem (.eoff .z))),
   (0xE7, fun _ _ _ => .orab (.mem (.eoff .z))),
   (0xE8, fun _ _ _ => .cmpb (.mem (.eoff .z))),
   (0xE9, fun _ _ _ => .bitb (.mem (.eoff .z))),
   (0xEA, fun _ _ _ => .stab (.eoff .z))]

/-- Row Fx of page 2 (prebyte $27), 30_encoding.md R162. -/
def page2RowF : List Row :=
  [(0xF0, fun _ _ _ => .comd),
   (0xF1, fun _ _ _ => .lpstop),
   (0xF2, fun _ _ _ => .negd),
   (0xF3, fun _ _ _ => .wai),
   (0xF4, fun _ _ _ => .asld),
   (0xF5, fun _ _ _ => .clrd),
   (0xF6, fun _ _ _ => .tstd),
   (0xF7, fun _ _ _ => .rts),
   (0xF8, fun _ _ _ => .sxt),
   (0xF9, fun _ w1 _ => .lbsr w1),
   (0xFA, fun _ _ _ => .tbek),
   (0xFB, fun _ _ _ => .ted),
   (0xFC, fun _ _ _ => .rold),
   (0xFD, fun _ _ _ => .asrd),
   (0xFE, fun _ _ _ => .rord),
   (0xFF, fun _ _ _ => .lsrd)]

/-- Row 0x of page 3 (prebyte $37), 30_encoding.md R163. -/
def page3Row0 : List Row :=
  [(0x00, fun _ _ _ => .coma),
   (0x01, fun _ _ _ => .deca),
   (0x02, fun _ _ _ => .nega),
   (0x03, fun _ _ _ => .inca),
   (0x04, fun _ _ _ => .asla),
   (0x05, fun _ _ _ => .clra),
   (0x06, fun _ _ _ => .tsta),
   (0x07, fun _ _ _ => .tba),
   (0x08, fun _ _ _ => .psha),
   (0x09, fun _ _ _ => .pula),
   (0x0A, fun _ _ _ => .sba),
   (0x0B, fun _ _ _ => .aba),
   (0x0C, fun _ _ _ => .rola),
   (0x0D, fun _ _ _ => .asra),
   (0x0E, fun _ _ _ => .rora),
   (0x0F, fun _ _ _ => .lsra)]

/-- Row 1x of page 3 (prebyte $37), 30_encoding.md R163. -/
def page3Row1 : List Row :=
  [(0x10, fun _ _ _ => .comb),
   (0x11, fun _ _ _ => .decb),
   (0x12, fun _ _ _ => .negb),
   (0x13, fun _ _ _ => .incb),
   (0x14, fun _ _ _ => .aslb),
   (0x15, fun _ _ _ => .clrb),
   (0x16, fun _ _ _ => .tstb),
   (0x17, fun _ _ _ => .tab),
   (0x18, fun _ _ _ => .pshb),
   (0x19, fun _ _ _ => .pulb),
   (0x1A, fun _ _ _ => .xgab),
   (0x1B, fun _ _ _ => .cba),
   (0x1C, fun _ _ _ => .rolb),
   (0x1D, fun _ _ _ => .asrb),
   (0x1E, fun _ _ _ => .rorb),
   (0x1F, fun _ _ _ => .lsrb)]

/-- Row 2x of page 3 (prebyte $37), 30_encoding.md R163. -/
def page3Row2 : List Row :=
  [(0x20, fun _ _ _ => .swi),
   (0x21, fun _ _ _ => .daa),
   (0x22, fun _ _ _ => .ace),
   (0x23, fun _ _ _ => .aced),
   (0x24, fun _ _ _ => .mul),
   (0x25, fun _ _ _ => .emul),
   (0x26, fun _ _ _ => .emuls),
   (0x27, fun _ _ _ => .fmuls),
   (0x28, fun _ _ _ => .ediv),
   (0x29, fun _ _ _ => .edivs),
   (0x2A, fun _ _ _ => .idiv),
   (0x2B, fun _ _ _ => .fdiv),
   (0x2C, fun _ _ _ => .tpd),
   (0x2D, fun _ _ _ => .tdp),
   (0x2F, fun _ _ _ => .tdmsk)]

/-- Row 3x of page 3 (prebyte $37), 30_encoding.md R163. -/
def page3Row3 : List Row :=
  [(0x30, fun _ w1 _ => .sube (.imm16 w1)),
   (0x31, fun _ w1 _ => .adde (.imm16 w1)),
   (0x32, fun _ w1 _ => .sbce (.imm16 w1)),
   (0x33, fun _ w1 _ => .adce (.imm16 w1)),
   (0x34, fun _ w1 _ => .eore (.imm16 w1)),
   (0x35, fun _ w1 _ => .lde (.imm16 w1)),
   (0x36, fun _ w1 _ => .ande (.imm16 w1)),
   (0x37, fun _ w1 _ => .ore (.imm16 w1)),
   (0x38, fun _ w1 _ => .cpe (.imm16 w1)),
   (0x3A, fun _ w1 _ => .andp w1),
   (0x3B, fun _ w1 _ => .orp w1),
   (0x3C, fun _ w1 _ => .aix (.i16 w1)),
   (0x3D, fun _ w1 _ => .aiy (.i16 w1)),
   (0x3E, fun _ w1 _ => .aiz (.i16 w1)),
   (0x3F, fun _ w1 _ => .ais (.i16 w1))]

/-- Row 4x of page 3 (prebyte $37), 30_encoding.md R163. -/
def page3Row4 : List Row :=
  [(0x40, fun _ w1 _ => .sube (.mem (.ind16 .x w1))),
   (0x41, fun _ w1 _ => .adde (.mem (.ind16 .x w1))),
   (0x42, fun _ w1 _ => .sbce (.mem (.ind16 .x w1))),
   (0x43, fun _ w1 _ => .adce (.mem (.ind16 .x w1))),
   (0x44, fun _ w1 _ => .eore (.mem (.ind16 .x w1))),
   (0x45, fun _ w1 _ => .lde (.mem (.ind16 .x w1))),
   (0x46, fun _ w1 _ => .ande (.mem (.ind16 .x w1))),
   (0x47, fun _ w1 _ => .ore (.mem (.ind16 .x w1))),
   (0x48, fun _ w1 _ => .cpe (.mem (.ind16 .x w1))),
   (0x4A, fun _ w1 _ => .ste (.ind16 .x w1)),
   (0x4C, fun _ _ _ => .xgex),
   (0x4D, fun _ _ _ => .aex),
   (0x4E, fun _ _ _ => .txs),
   (0x4F, fun _ _ _ => .abx)]

/-- Row 5x of page 3 (prebyte $37), 30_encoding.md R163. -/
def page3Row5 : List Row :=
  [(0x50, fun _ w1 _ => .sube (.mem (.ind16 .y w1))),
   (0x51, fun _ w1 _ => .adde (.mem (.ind16 .y w1))),
   (0x52, fun _ w1 _ => .sbce (.mem (.ind16 .y w1))),
   (0x53, fun _ w1 _ => .adce (.mem (.ind16 .y w1))),
   (0x54, fun _ w1 _ => .eore (.mem (.ind16 .y w1))),
   (0x55, fun _ w1 _ => .lde (.mem (.ind16 .y w1))),
   (0x56, fun _ w1 _ => .ande (.mem (.ind16 .y w1))),
   (0x57, fun _ w1 _ => .ore (.mem (.ind16 .y w1))),
   (0x58, fun _ w1 _ => .cpe (.mem (.ind16 .y w1))),
   (0x5A, fun _ w1 _ => .ste (.ind16 .y w1)),
   (0x5C, fun _ _ _ => .xgey),
   (0x5D, fun _ _ _ => .aey),
   (0x5E, fun _ _ _ => .tys),
   (0x5F, fun _ _ _ => .aby)]

/-- Row 6x of page 3 (prebyte $37), 30_encoding.md R163. -/
def page3Row6 : List Row :=
  [(0x60, fun _ w1 _ => .sube (.mem (.ind16 .z w1))),
   (0x61, fun _ w1 _ => .adde (.mem (.ind16 .z w1))),
   (0x62, fun _ w1 _ => .sbce (.mem (.ind16 .z w1))),
   (0x63, fun _ w1 _ => .adce (.mem (.ind16 .z w1))),
   (0x64, fun _ w1 _ => .eore (.mem (.ind16 .z w1))),
   (0x65, fun _ w1 _ => .lde (.mem (.ind16 .z w1))),
   (0x66, fun _ w1 _ => .ande (.mem (.ind16 .z w1))),
   (0x67, fun _ w1 _ => .ore (.mem (.ind16 .z w1))),
   (0x68, fun _ w1 _ => .cpe (.mem (.ind16 .z w1))),
   (0x6A, fun _ w1 _ => .ste (.ind16 .z w1)),
   (0x6C, fun _ _ _ => .xgez),
   (0x6D, fun _ _ _ => .aez),
   (0x6E, fun _ _ _ => .tzs),
   (0x6F, fun _ _ _ => .abz)]

/-- Row 7x of page 3 (prebyte $37), 30_encoding.md R163. -/
def page3Row7 : List Row :=
  [(0x70, fun _ w1 _ => .sube (.mem (.ext w1))),
   (0x71, fun _ w1 _ => .adde (.mem (.ext w1))),
   (0x72, fun _ w1 _ => .sbce (.mem (.ext w1))),
   (0x73, fun _ w1 _ => .adce (.mem (.ext w1))),
   (0x74, fun _ w1 _ => .eore (.mem (.ext w1))),
   (0x75, fun _ w1 _ => .lde (.mem (.ext w1))),
   (0x76, fun _ w1 _ => .ande (.mem (.ext w1))),
   (0x77, fun _ w1 _ => .ore (.mem (.ext w1))),
   (0x78, fun _ w1 _ => .cpe (.mem (.ext w1))),
   (0x7A, fun _ w1 _ => .ste (.ext w1)),
   (0x7C, fun _ w1 _ => .cpx (.imm16 w1)),
   (0x7D, fun _ w1 _ => .cpy (.imm16 w1)),
   (0x7E, fun _ w1 _ => .cpz (.imm16 w1)),
   (0x7F, fun _ w1 _ => .cps (.imm16 w1))]

/-- Row 8x of page 3 (prebyte $37), 30_encoding.md R163. -/
def page3Row8 : List Row :=
  [(0x80, fun _ w1 _ => .lbra w1),
   (0x81, fun _ w1 _ => .lbrn w1),
   (0x82, fun _ w1 _ => .lbhi w1),
   (0x83, fun _ w1 _ => .lbls w1),
   (0x84, fun _ w1 _ => .lbcc w1),
   (0x85, fun _ w1 _ => .lbcs w1),
   (0x86, fun _ w1 _ => .lbne w1),
   (0x87, fun _ w1 _ => .lbeq w1),
   (0x88, fun _ w1 _ => .lbvc w1),
   (0x89, fun _ w1 _ => .lbvs w1),
   (0x8A, fun _ w1 _ => .lbpl w1),
   (0x8B, fun _ w1 _ => .lbmi w1),
   (0x8C, fun _ w1 _ => .lbge w1),
   (0x8D, fun _ w1 _ => .lblt w1),
   (0x8E, fun _ w1 _ => .lbgt w1),
   (0x8F, fun _ w1 _ => .lble w1)]

/-- Row 9x of page 3 (prebyte $37), 30_encoding.md R163. -/
def page3Row9 : List Row :=
  [(0x90, fun _ w1 _ => .lbmv w1),
   (0x91, fun _ w1 _ => .lbev w1),
   (0x9C, fun _ _ _ => .tbxk),
   (0x9D, fun _ _ _ => .tbyk),
   (0x9E, fun _ _ _ => .tbzk),
   (0x9F, fun _ _ _ => .tbsk)]

/-- Row Ax of page 3 (prebyte $37), 30_encoding.md R163. -/
def page3RowA : List Row :=
  [(0xA6, fun _ _ _ => .bgnd),
   (0xAC, fun _ _ _ => .txkb),
   (0xAD, fun _ _ _ => .tykb),
   (0xAE, fun _ _ _ => .tzkb),
   (0xAF, fun _ _ _ => .tskb)]

/-- Row Bx of page 3 (prebyte $37), 30_encoding.md R163. -/
def page3RowB : List Row :=
  [(0xB0, fun _ w1 _ => .subd (.imm16 w1)),
   (0xB1, fun _ w1 _ => .addd (.imm16 w1)),
   (0xB2, fun _ w1 _ => .sbcd (.imm16 w1)),
   (0xB3, fun _ w1 _ => .adcd (.imm16 w1)),
   (0xB4, fun _ w1 _ => .eord (.imm16 w1)),
   (0xB5, fun _ w1 _ => .ldd (.imm16 w1)),
   (0xB6, fun _ w1 _ => .andd (.imm16 w1)),
   (0xB7, fun _ w1 _ => .ord (.imm16 w1)),
   (0xB8, fun _ w1 _ => .cpd (.imm16 w1)),
   (0xBC, fun _ w1 _ => .ldx (.imm16 w1)),
   (0xBD, fun _ w1 _ => .ldy (.imm16 w1)),
   (0xBE, fun _ w1 _ => .ldz (.imm16 w1)),
   (0xBF, fun _ w1 _ => .lds (.imm16 w1))]

/-- Row Cx of page 3 (prebyte $37), 30_encoding.md R163. -/
def page3RowC : List Row :=
  [(0xC0, fun _ w1 _ => .subd (.mem (.ind16 .x w1))),
   (0xC1, fun _ w1 _ => .addd (.mem (.ind16 .x w1))),
   (0xC2, fun _ w1 _ => .sbcd (.mem (.ind16 .x w1))),
   (0xC3, fun _ w1 _ => .adcd (.mem (.ind16 .x w1))),
   (0xC4, fun _ w1 _ => .eord (.mem (.ind16 .x w1))),
   (0xC5, fun _ w1 _ => .ldd (.mem (.ind16 .x w1))),
   (0xC6, fun _ w1 _ => .andd (.mem (.ind16 .x w1))),
   (0xC7, fun _ w1 _ => .ord (.mem (.ind16 .x w1))),
   (0xC8, fun _ w1 _ => .cpd (.mem (.ind16 .x w1))),
   (0xCA, fun _ w1 _ => .std (.ind16 .x w1)),
   (0xCC, fun _ _ _ => .xgdx),
   (0xCD, fun _ _ _ => .adx)]

/-- Row Dx of page 3 (prebyte $37), 30_encoding.md R163. -/
def page3RowD : List Row :=
  [(0xD0, fun _ w1 _ => .subd (.mem (.ind16 .y w1))),
   (0xD1, fun _ w1 _ => .addd (.mem (.ind16 .y w1))),
   (0xD2, fun _ w1 _ => .sbcd (.mem (.ind16 .y w1))),
   (0xD3, fun _ w1 _ => .adcd (.mem (.ind16 .y w1))),
   (0xD4, fun _ w1 _ => .eord (.mem (.ind16 .y w1))),
   (0xD5, fun _ w1 _ => .ldd (.mem (.ind16 .y w1))),
   (0xD6, fun _ w1 _ => .andd (.mem (.ind16 .y w1))),
   (0xD7, fun _ w1 _ => .ord (.mem (.ind16 .y w1))),
   (0xD8, fun _ w1 _ => .cpd (.mem (.ind16 .y w1))),
   (0xDA, fun _ w1 _ => .std (.ind16 .y w1)),
   (0xDC, fun _ _ _ => .xgdy),
   (0xDD, fun _ _ _ => .ady)]

/-- Row Ex of page 3 (prebyte $37), 30_encoding.md R163. -/
def page3RowE : List Row :=
  [(0xE0, fun _ w1 _ => .subd (.mem (.ind16 .z w1))),
   (0xE1, fun _ w1 _ => .addd (.mem (.ind16 .z w1))),
   (0xE2, fun _ w1 _ => .sbcd (.mem (.ind16 .z w1))),
   (0xE3, fun _ w1 _ => .adcd (.mem (.ind16 .z w1))),
   (0xE4, fun _ w1 _ => .eord (.mem (.ind16 .z w1))),
   (0xE5, fun _ w1 _ => .ldd (.mem (.ind16 .z w1))),
   (0xE6, fun _ w1 _ => .andd (.mem (.ind16 .z w1))),
   (0xE7, fun _ w1 _ => .ord (.mem (.ind16 .z w1))),
   (0xE8, fun _ w1 _ => .cpd (.mem (.ind16 .z w1))),
   (0xEA, fun _ w1 _ => .std (.ind16 .z w1)),
   (0xEC, fun _ _ _ => .xgdz),
   (0xED, fun _ _ _ => .adz)]

/-- Row Fx of page 3 (prebyte $37), 30_encoding.md R163. -/
def page3RowF : List Row :=
  [(0xF0, fun _ w1 _ => .subd (.mem (.ext w1))),
   (0xF1, fun _ w1 _ => .addd (.mem (.ext w1))),
   (0xF2, fun _ w1 _ => .sbcd (.mem (.ext w1))),
   (0xF3, fun _ w1 _ => .adcd (.mem (.ext w1))),
   (0xF4, fun _ w1 _ => .eord (.mem (.ext w1))),
   (0xF5, fun _ w1 _ => .ldd (.mem (.ext w1))),
   (0xF6, fun _ w1 _ => .andd (.mem (.ext w1))),
   (0xF7, fun _ w1 _ => .ord (.mem (.ext w1))),
   (0xF8, fun _ w1 _ => .cpd (.mem (.ext w1))),
   (0xFA, fun _ w1 _ => .std (.ext w1)),
   (0xFC, fun _ _ _ => .tpa),
   (0xFD, fun _ _ _ => .tap),
   (0xFE, fun _ w1 w2 => .movb (.extToExt w1 w2)),
   (0xFF, fun _ w1 w2 => .movw (.extToExt w1 w2))]

/-- The opcode map of page 0 (the opcode is W0[15:8]), 30_encoding.md R160. -/
def page0 : List Row :=
  page0Row0 ++
  page0Row1 ++
  page0Row2 ++
  page0Row3 ++
  page0Row4 ++
  page0Row5 ++
  page0Row6 ++
  page0Row7 ++
  page0Row8 ++
  page0Row9 ++
  page0RowA ++
  page0RowB ++
  page0RowC ++
  page0RowD ++
  page0RowE ++
  page0RowF

/-- The opcode map of page 1 (prebyte $17), 30_encoding.md R161. -/
def page1 : List Row :=
  page1Row0 ++
  page1Row1 ++
  page1Row2 ++
  page1Row3 ++
  page1Row4 ++
  page1Row5 ++
  page1Row6 ++
  page1Row7 ++
  page1Row8 ++
  page1Row9 ++
  page1RowA ++
  page1RowB ++
  page1RowC ++
  page1RowD ++
  page1RowE ++
  page1RowF

/-- The opcode map of page 2 (prebyte $27), 30_encoding.md R162. -/
def page2 : List Row :=
  page2Row0 ++
  page2Row1 ++
  page2Row2 ++
  page2Row3 ++
  page2Row4 ++
  page2Row5 ++
  page2Row6 ++
  page2Row7 ++
  page2Row8 ++
  page2Row9 ++
  page2RowA ++
  page2RowB ++
  page2RowC ++
  page2RowD ++
  page2RowE ++
  page2RowF

/-- The opcode map of page 3 (prebyte $37), 30_encoding.md R163. -/
def page3 : List Row :=
  page3Row0 ++
  page3Row1 ++
  page3Row2 ++
  page3Row3 ++
  page3Row4 ++
  page3Row5 ++
  page3Row6 ++
  page3Row7 ++
  page3Row8 ++
  page3Row9 ++
  page3RowA ++
  page3RowB ++
  page3RowC ++
  page3RowD ++
  page3RowE ++
  page3RowF

/-- The row of a page that an opcode byte selects. -/
def findRow (key : Byte) : List Row → Option (Word → Word → Word → Instr)
  | [] => none
  | (k, f) :: rest => if k = key then some f else findRow key rest

/-- The page that the first word selects, and its key in it (30_encoding.md R154). -/
def selectRow (w0 : Word) : Option (Word → Word → Word → Instr) :=
  if hi w0 = 0x17 then findRow (lo w0) page1
  else if hi w0 = 0x27 then findRow (lo w0) page2
  else if hi w0 = 0x37 then findRow (lo w0) page3
  else findRow (hi w0) page0

/-- The instruction that the words W0, W1, W2 begin with (30_encoding.md R154). Words beyond its length are not read. -/
def decode (w0 w1 w2 : Word) : Except DecodeError Instr :=
  match selectRow w0 with
  | some f => .ok (f w0 w1 w2)
  | none => .error (.unassignedOpcode w0)

/-! ### The encoder -/

/-- The opcode distance of an index register's variant from the X variant (30_encoding.md R153). -/
def Ix.step : Ix → Byte
  | .x => 0x00
  | .y => 0x10
  | .z => 0x20

/-- Memory forms on pages 0 (IND8), 1 (IND16, EXT) and 2 (E). -/
def encMem (op : Byte) : Mem → List Word
  | .ind8 i ff => [word (op + i.step) ff]
  | .ind16 i gggg => [word 0x17 (op + i.step), gggg]
  | .ext hhll => [word 0x17 (op + 0x30), hhll]
  | .eoff i => [word 0x27 (op + i.step)]

/-- Instructions on A and B. -/
def encSrc8 (op : Byte) : Src8 → List Word
  | .mem m => encMem op m
  | .imm ii => [word (op + 0x30) ii]

/-- Memory forms of the instructions on D: pages 0 (IND8), 2 (E) and 3 (IND16, EXT). -/
def encMemD (op : Byte) : Mem → List Word
  | .ind8 i ff => [word (op + i.step) ff]
  | .ind16 i gggg => [word 0x37 (op + 0x40 + i.step), gggg]
  | .ext hhll => [word 0x37 (op + 0x70), hhll]
  | .eoff i => [word 0x27 (op + i.step)]

/-- Instructions on D. -/
def encSrcD (op imm8op : Byte) : Src16 → List Word
  | .mem m => encMemD op m
  | .imm8 ii => [word imm8op ii]
  | .imm16 jjkk => [word 0x37 (op + 0x30), jjkk]

/-- Memory forms of the instructions on E, page 3; no other form has an encoding. -/
def encMemE (op : Byte) : Mem → List Word
  | .ind8 _ _ => []
  | .ind16 i gggg => [word 0x37 (op + 0x10 + i.step), gggg]
  | .ext hhll => [word 0x37 (op + 0x40), hhll]
  | .eoff _ => []

/-- Instructions on E. -/
def encSrcE (op imm8op : Byte) : Src16 → List Word
  | .mem m => encMemE op m
  | .imm8 ii => [word imm8op ii]
  | .imm16 jjkk => [word 0x37 op, jjkk]

/-- Loads and compares of IX, IY, IZ, SP; `immOp` is the page 3 opcode of the IMM16 form. -/
def encSrcIndex (op immOp : Byte) : Src16 → List Word
  | .mem m => encMem op m
  | .imm8 _ => []
  | .imm16 jjkk => [word 0x37 immOp, jjkk]

/-- Word instructions on memory, page 2. -/
def encMemW (op : Byte) : Mem → List Word
  | .ind8 _ _ => []
  | .ind16 i gggg => [word 0x27 (op + i.step), gggg]
  | .ext hhll => [word 0x27 (op + 0x30), hhll]
  | .eoff _ => []

/-- BCLR and BSET: page 1 for IND8, page 0 for IND16 and EXT (43_logic_bit.md R371). -/
def encBit8 (op : Byte) (mm : Byte) : Mem → List Word
  | .ind8 i ff => [word 0x17 (op + i.step), word mm ff]
  | .ind16 i gggg => [word (op + i.step) mm, gggg]
  | .ext hhll => [word (op + 0x30) mm, hhll]
  | .eoff _ => []

/-- BRCLR and BRSET (45_program_control.md R514). -/
def encBitBranch (op8 op16 : Byte) (mm : Byte) : Mem → Rel → List Word
  | .ind8 i ff, .r8 rr => [word (op8 + i.step) mm, word ff rr]
  | .ind16 i gggg, .r16 rrrr => [word (op16 + i.step) mm, gggg, rrrr]
  | .ext hhll, .r16 rrrr => [word (op16 + 0x30) mm, hhll, rrrr]
  | _, _ => []

/-- JMP and JSR; the z nibble is written as 0 (30_encoding.md R150). -/
def encJump (extOp indOp : Byte) : JumpTarget → List Word
  | .ext20 b hhll => [word extOp (0#4 ++ b), hhll]
  | .ind20 i off => [word (indOp + i.step) (0#4 ++ BitVec.extractLsb' 16 4 off), BitVec.extractLsb' 0 16 off]

/-- AIX, AIY, AIZ, AIS: the same opcode on page 0 (IMM8) and page 3 (IMM16). -/
def encImm (op : Byte) : Imm → List Word
  | .i8 ii => [word op ii]
  | .i16 jjkk => [word 0x37 op, jjkk]

/-- MOVB and MOVW (40_data_movement.md R215, R216). -/
def encMov (ixpExt extIxp extExt : Byte) : MovForm → List Word
  | .ixpToExt ff hhll => [word ixpExt ff, hhll]
  | .extToIxp hhll ff => [word extIxp ff, hhll]
  | .extToExt src dst => [word 0x37 extExt, src, dst]

/-- The words of an instruction. A form that the mnemonic does not have (`Instr.wellFormed`) may have no words. -/
def encode : Instr → List Word
  | .ldaa m => encSrc8 0x45 m
  | .ldab m => encSrc8 0xC5 m
  | .ldd m => encSrcD 0x85 0xFC m
  | .lde m => encSrcE 0x35 0x7C m
  | .lded hhll => [word 0x27 0x71, hhll]
  | .movb f => encMov 0x30 0x32 0xFE f
  | .movw f => encMov 0x31 0x33 0xFF f
  | .staa m => encMem 0x4A m
  | .stab m => encMem 0xCA m
  | .std m => encMemD 0x8A m
  | .ste m => encMemE 0x3A m
  | .sted hhll => [word 0x27 0x73, hhll]
  | .tab => [word 0x37 0x17]
  | .tba => [word 0x37 0x07]
  | .tde => [word 0x27 0x7B]
  | .ted => [word 0x27 0xFB]
  | .xgab => [word 0x37 0x1A]
  | .xgde => [word 0x27 0x7A]
  | .aba => [word 0x37 0x0B]
  | .adca m => encSrc8 0x43 m
  | .adcb m => encSrc8 0xC3 m
  | .adcd m => encSrcD 0x83 0xFC m
  | .adce m => encSrcE 0x33 0x7C m
  | .adda m => encSrc8 0x41 m
  | .addb m => encSrc8 0xC1 m
  | .addd m => encSrcD 0x81 0xFC m
  | .adde m => encSrcE 0x31 0x7C m
  | .ade => [word 0x27 0x78]
  | .sba => [word 0x37 0x0A]
  | .sbca m => encSrc8 0x42 m
  | .sbcb m => encSrc8 0xC2 m
  | .sbcd m => encSrcD 0x82 0xFC m
  | .sbce m => encSrcE 0x32 0x7C m
  | .sde => [word 0x27 0x79]
  | .suba m => encSrc8 0x40 m
  | .subb m => encSrc8 0xC0 m
  | .subd m => encSrcD 0x80 0xFC m
  | .sube m => encSrcE 0x30 0x7C m
  | .daa => [word 0x37 0x21]
  | .sxt => [word 0x27 0xF8]
  | .cba => [word 0x37 0x1B]
  | .cmpa m => encSrc8 0x48 m
  | .cmpb m => encSrc8 0xC8 m
  | .cpd m => encSrcD 0x88 0xFC m
  | .cpe m => encSrcE 0x38 0x7C m
  | .tst m => encMem 0x06 m
  | .tsta => [word 0x37 0x06]
  | .tstb => [word 0x37 0x16]
  | .tstd => [word 0x27 0xF6]
  | .tste => [word 0x27 0x76]
  | .tstw m => encMemW 0x06 m
  | .dec m => encMem 0x01 m
  | .deca => [word 0x37 0x01]
  | .decb => [word 0x37 0x11]
  | .decw m => encMemW 0x01 m
  | .inc m => encMem 0x03 m
  | .inca => [word 0x37 0x03]
  | .incb => [word 0x37 0x13]
  | .incw m => encMemW 0x03 m
  | .clr m => encMem 0x05 m
  | .clra => [word 0x37 0x05]
  | .clrb => [word 0x37 0x15]
  | .clrd => [word 0x27 0xF5]
  | .clre => [word 0x27 0x75]
  | .clrw m => encMemW 0x05 m
  | .com m => encMem 0x00 m
  | .coma => [word 0x37 0x00]
  | .comb => [word 0x37 0x10]
  | .comd => [word 0x27 0xF0]
  | .come => [word 0x27 0x70]
  | .comw m => encMemW 0x00 m
  | .neg m => encMem 0x02 m
  | .nega => [word 0x37 0x02]
  | .negb => [word 0x37 0x12]
  | .negd => [word 0x27 0xF2]
  | .nege => [word 0x27 0x72]
  | .negw m => encMemW 0x02 m
  | .ediv => [word 0x37 0x28]
  | .edivs => [word 0x37 0x29]
  | .emul => [word 0x37 0x25]
  | .emuls => [word 0x37 0x26]
  | .fdiv => [word 0x37 0x2B]
  | .fmuls => [word 0x37 0x27]
  | .idiv => [word 0x37 0x2A]
  | .mul => [word 0x37 0x24]
  | .anda m => encSrc8 0x46 m
  | .andb m => encSrc8 0xC6 m
  | .andd m => encSrcD 0x86 0xFC m
  | .ande m => encSrcE 0x36 0x7C m
  | .eora m => encSrc8 0x44 m
  | .eorb m => encSrc8 0xC4 m
  | .eord m => encSrcD 0x84 0xFC m
  | .eore m => encSrcE 0x34 0x7C m
  | .oraa m => encSrc8 0x47 m
  | .orab m => encSrc8 0xC7 m
  | .ord m => encSrcD 0x87 0xFC m
  | .ore m => encSrcE 0x37 0x7C m
  | .bita m => encSrc8 0x49 m
  | .bitb m => encSrc8 0xC9 m
  | .bclr m mm => encBit8 0x08 mm m
  | .bclrw m mmmm => encMemW 0x08 m ++ [mmmm]
  | .bset m mm => encBit8 0x09 mm m
  | .bsetw m mmmm => encMemW 0x09 m ++ [mmmm]
  | .lsr m => encMem 0x0F m
  | .lsra => [word 0x37 0x0F]
  | .lsrb => [word 0x37 0x1F]
  | .lsrd => [word 0x27 0xFF]
  | .lsre => [word 0x27 0x7F]
  | .lsrw m => encMemW 0x0F m
  | .asl m => encMem 0x04 m
  | .asla => [word 0x37 0x04]
  | .aslb => [word 0x37 0x14]
  | .asld => [word 0x27 0xF4]
  | .asle => [word 0x27 0x74]
  | .aslw m => encMemW 0x04 m
  | .asr m => encMem 0x0D m
  | .asra => [word 0x37 0x0D]
  | .asrb => [word 0x37 0x1D]
  | .asrd => [word 0x27 0xFD]
  | .asre => [word 0x27 0x7D]
  | .asrw m => encMemW 0x0D m
  | .rol m => encMem 0x0C m
  | .rola => [word 0x37 0x0C]
  | .rolb => [word 0x37 0x1C]
  | .rold => [word 0x27 0xFC]
  | .role => [word 0x27 0x7C]
  | .rolw m => encMemW 0x0C m
  | .ror m => encMem 0x0E m
  | .rora => [word 0x37 0x0E]
  | .rorb => [word 0x37 0x1E]
  | .rord => [word 0x27 0xFE]
  | .rore => [word 0x27 0x7E]
  | .rorw m => encMemW 0x0E m
  | .bra rr => [word 0xB0 rr]
  | .brn rr => [word 0xB1 rr]
  | .bcc rr => [word 0xB4 rr]
  | .bcs rr => [word 0xB5 rr]
  | .beq rr => [word 0xB7 rr]
  | .bge rr => [word 0xBC rr]
  | .bgt rr => [word 0xBE rr]
  | .bhi rr => [word 0xB2 rr]
  | .ble rr => [word 0xBF rr]
  | .bls rr => [word 0xB3 rr]
  | .blt rr => [word 0xBD rr]
  | .bmi rr => [word 0xBB rr]
  | .bne rr => [word 0xB6 rr]
  | .bpl rr => [word 0xBA rr]
  | .bvc rr => [word 0xB8 rr]
  | .bvs rr => [word 0xB9 rr]
  | .lbra rrrr => [word 0x37 0x80, rrrr]
  | .lbrn rrrr => [word 0x37 0x81, rrrr]
  | .lbcc rrrr => [word 0x37 0x84, rrrr]
  | .lbcs rrrr => [word 0x37 0x85, rrrr]
  | .lbeq rrrr => [word 0x37 0x87, rrrr]
  | .lbge rrrr => [word 0x37 0x8C, rrrr]
  | .lbgt rrrr => [word 0x37 0x8E, rrrr]
  | .lbhi rrrr => [word 0x37 0x82, rrrr]
  | .lble rrrr => [word 0x37 0x8F, rrrr]
  | .lbls rrrr => [word 0x37 0x83, rrrr]
  | .lblt rrrr => [word 0x37 0x8D, rrrr]
  | .lbmi rrrr => [word 0x37 0x8B, rrrr]
  | .lbne rrrr => [word 0x37 0x86, rrrr]
  | .lbpl rrrr => [word 0x37 0x8A, rrrr]
  | .lbvc rrrr => [word 0x37 0x88, rrrr]
  | .lbvs rrrr => [word 0x37 0x89, rrrr]
  | .lbev rrrr => [word 0x37 0x91, rrrr]
  | .lbmv rrrr => [word 0x37 0x90, rrrr]
  | .brclr m mm r => encBitBranch 0xCB 0x0A mm m r
  | .brset m mm r => encBitBranch 0x8B 0x0B mm m r
  | .jmp t => encJump 0x7A 0x4B t
  | .bsr rr => [word 0x36 rr]
  | .jsr t => encJump 0xFA 0x89 t
  | .lbsr rrrr => [word 0x27 0xF9, rrrr]
  | .rts => [word 0x27 0xF7]
  | .rti => [word 0x27 0x77]
  | .swi => [word 0x37 0x20]
  | .abx => [word 0x37 0x4F]
  | .aby => [word 0x37 0x5F]
  | .abz => [word 0x37 0x6F]
  | .adx => [word 0x37 0xCD]
  | .ady => [word 0x37 0xDD]
  | .adz => [word 0x37 0xED]
  | .aex => [word 0x37 0x4D]
  | .aey => [word 0x37 0x5D]
  | .aez => [word 0x37 0x6D]
  | .aix v => encImm 0x3C v
  | .aiy v => encImm 0x3D v
  | .aiz v => encImm 0x3E v
  | .cpx m => encSrcIndex 0x4C 0x7C m
  | .ldx m => encSrcIndex 0xCC 0xBC m
  | .stx m => encMem 0x8C m
  | .cpy m => encSrcIndex 0x4D 0x7D m
  | .ldy m => encSrcIndex 0xCD 0xBD m
  | .sty m => encMem 0x8D m
  | .cpz m => encSrcIndex 0x4E 0x7E m
  | .ldz m => encSrcIndex 0xCE 0xBE m
  | .stz m => encMem 0x8E m
  | .tsx => [word 0x27 0x4F]
  | .tsy => [word 0x27 0x5F]
  | .tsz => [word 0x27 0x6F]
  | .txs => [word 0x37 0x4E]
  | .txy => [word 0x27 0x5C]
  | .txz => [word 0x27 0x6C]
  | .tys => [word 0x37 0x5E]
  | .tyx => [word 0x27 0x4D]
  | .tyz => [word 0x27 0x6D]
  | .tzs => [word 0x37 0x6E]
  | .tzx => [word 0x27 0x4E]
  | .tzy => [word 0x27 0x5E]
  | .xgdx => [word 0x37 0xCC]
  | .xgdy => [word 0x37 0xDC]
  | .xgdz => [word 0x37 0xEC]
  | .xgex => [word 0x37 0x4C]
  | .xgey => [word 0x37 0x5C]
  | .xgez => [word 0x37 0x6C]
  | .tbek => [word 0x27 0xFA]
  | .tbsk => [word 0x37 0x9F]
  | .tbxk => [word 0x37 0x9C]
  | .tbyk => [word 0x37 0x9D]
  | .tbzk => [word 0x37 0x9E]
  | .tekb => [word 0x27 0xBB]
  | .tskb => [word 0x37 0xAF]
  | .txkb => [word 0x37 0xAC]
  | .tykb => [word 0x37 0xAD]
  | .tzkb => [word 0x37 0xAE]
  | .ais v => encImm 0x3F v
  | .cps m => encSrcIndex 0x4F 0x7F m
  | .lds m => encSrcIndex 0xCF 0xBF m
  | .sts m => encMem 0x8F m
  | .psha => [word 0x37 0x08]
  | .pshb => [word 0x37 0x18]
  | .pshm mask => [word 0x34 mask]
  | .pula => [word 0x37 0x09]
  | .pulb => [word 0x37 0x19]
  | .pulm mask => [word 0x35 mask]
  | .andp jjkk => [word 0x37 0x3A, jjkk]
  | .orp jjkk => [word 0x37 0x3B, jjkk]
  | .tap => [word 0x37 0xFD]
  | .tdp => [word 0x37 0x2D]
  | .tpa => [word 0x37 0xFC]
  | .tpd => [word 0x37 0x2C]
  | .lpstop => [word 0x27 0xF1]
  | .wai => [word 0x27 0xF3]
  | .bgnd => [word 0x37 0xA6]
  | .nop => [word 0x27 0x4C]
  | .ace => [word 0x37 0x22]
  | .aced => [word 0x37 0x23]
  | .aslm => [word 0x27 0xB6]
  | .asrm => [word 0x27 0xBA]
  | .clrm => [word 0x27 0xB7]
  | .ldhi => [word 0x27 0xB0]
  | .mac xo yo => [word 0x7B (xo ++ yo)]
  | .pshmac => [word 0x27 0xB8]
  | .pulmac => [word 0x27 0xB9]
  | .rmac xo yo => [word 0xFB (xo ++ yo)]
  | .tmer => [word 0x27 0xB4]
  | .tmet => [word 0x27 0xB5]
  | .tdmsk => [word 0x37 0x2F]
  | .tedm => [word 0x27 0xB1]
  | .tem => [word 0x27 0xB2]
  | .tmxed => [word 0x27 0xB3]

/-- The length in bytes of an instruction: two per word (30_encoding.md R141). -/
def Instr.length (i : Instr) : Nat := 2 * (encode i).length

/-- The first three words of an instruction stream; a missing word counts as zero. -/
def decodeWords (ws : List Word) : Except DecodeError Instr :=
  decode (ws.getD 0 0) (ws.getD 1 0) (ws.getD 2 0)

/-- The words of a byte stream, each from its more significant byte and the byte after it (20_memory.md R96). -/
def wordsOfBytes : List Byte → List Word
  | h :: l :: rest => word h l :: wordsOfBytes rest
  | _ => []

/-- The bytes of words, the more significant first (20_memory.md R96). -/
def bytesOfWords : List Word → List Byte
  | [] => []
  | w :: rest => hi w :: lo w :: bytesOfWords rest

/-- The instruction at the front of a byte stream: total on any bytes, rejecting by name. -/
def decodeBytes (bs : List Byte) : Except DecodeError Instr :=
  if bs.length < 2 then .error .truncated
  else
    match decodeWords (wordsOfBytes bs) with
    | .ok i => if i.length ≤ bs.length then .ok i else .error .truncated
    | .error e => .error e

/-- The three words of an instruction whose bits are `w`, numbered from the first word upwards, with every bit from
`nbits` on zero. -/
def tableWords (nbits w : Nat) : List Word :=
  let v := w % 2 ^ nbits
  [BitVec.ofNat 16 v, BitVec.ofNat 16 (v / 2 ^ 16), BitVec.ofNat 16 (v / 2 ^ 32)]

/-- What the decoder reads from an instruction whose bits are `w` (the host's numbering), laid out in memory as the
hardware stores it. -/
def decodeTableWord (nbits w : Nat) : Option Instr :=
  match decodeBytes (bytesOfWords (tableWords nbits w)) with
  | .ok i => some i
  | .error _ => none

end Sys2Proof
end

