-- ==== Sys2Proof/Machine/Bits.lean ====
section
/-! DEFINITION. Bit fields and extensions (00_scope.md R10). `hi`, `lo` and `word` are in Decode.lean. -/

namespace Sys2Proof.Machine

/-- `zext_20`. -/
def zext20 {w : Nat} (v : BitVec w) : Addr := v.setWidth 20

/-- `sext_20`. -/
def sext20 {w : Nat} (v : BitVec w) : Addr := v.signExtend 20

/-- Bits [19:16] of an address: its bank. -/
def bank (a : Addr) : Ext := BitVec.extractLsb' 16 4 a

/-- Bits [15:0] of an address. -/
def offset (a : Addr) : Word := BitVec.extractLsb' 0 16 a

/-- The 20-bit concatenation of an extension field and a register. -/
def pair (k : Ext) (r : Word) : Addr := k ++ r

/-- An address with bit 0 cleared (10_state.md R43). -/
def evenAddr (a : Addr) : Addr := a &&& 0xFFFFE#20

/-- The high word of a 32-bit value. -/
def hiWord (v : BitVec 32) : Word := BitVec.extractLsb' 16 16 v

/-- The low word of a 32-bit value. -/
def loWord (v : BitVec 32) : Word := BitVec.extractLsb' 0 16 v

/-- The 32-bit concatenation of two words, the first the more significant. -/
def long (h l : Word) : BitVec 32 := h ++ l

/-- `sext_36` (47_dsp.md R660). -/
def sext36 {w : Nat} (v : BitVec w) : Acc := v.signExtend 36

/-- A flag as a number, 1 or 0. -/
def bit (w : Nat) (b : Bool) : BitVec w := BitVec.ofNat w b.toNat

end Sys2Proof.Machine
end

