-- ==== Sys2Proof/Machine/Flags.lean ====
section
/-! DEFINITION. The CCR's fields and every flag computation: 10_state.md R45, 41_arithmetic.md R260 to R263,
44_shift_rotate.md R420. An operation takes its operands and the CCR and gives its result and the CCR. -/

namespace Sys2Proof.Machine

/-! ### Fields of the CCR (10_state.md R45) -/

/-- A CCR bit as a flag. -/
def ccrBit (n : Nat) (c : Word) : Bool := c.getLsbD n

/-- The CCR with one bit replaced. -/
def withCcrBit (n : Nat) (v : Bool) (c : Word) : Word :=
  (c &&& ~~~(1#16 <<< n)) ||| (bit 16 v <<< n)

/-- CCR[15]. -/
def flagS (c : Word) : Bool := ccrBit 15 c
/-- CCR[14]. -/
def flagMV (c : Word) : Bool := ccrBit 14 c
/-- CCR[13]. -/
def flagH (c : Word) : Bool := ccrBit 13 c
/-- CCR[12]. -/
def flagEV (c : Word) : Bool := ccrBit 12 c
/-- CCR[11]. -/
def flagN (c : Word) : Bool := ccrBit 11 c
/-- CCR[10]. -/
def flagZ (c : Word) : Bool := ccrBit 10 c
/-- CCR[9]. -/
def flagV (c : Word) : Bool := ccrBit 9 c
/-- CCR[8]. -/
def flagC (c : Word) : Bool := ccrBit 8 c
/-- CCR[4]. -/
def flagSM (c : Word) : Bool := ccrBit 4 c
/-- CCR[7:5]. -/
def fieldIP (c : Word) : BitVec 3 := BitVec.extractLsb' 5 3 c
/-- CCR[3:0]. -/
def fieldPK (c : Word) : Ext := BitVec.extractLsb' 0 4 c

def withMV (v : Bool) (c : Word) : Word := withCcrBit 14 v c
def withH (v : Bool) (c : Word) : Word := withCcrBit 13 v c
def withEV (v : Bool) (c : Word) : Word := withCcrBit 12 v c
def withN (v : Bool) (c : Word) : Word := withCcrBit 11 v c
def withZ (v : Bool) (c : Word) : Word := withCcrBit 10 v c
def withV (v : Bool) (c : Word) : Word := withCcrBit 9 v c
def withC (v : Bool) (c : Word) : Word := withCcrBit 8 v c

/-- The CCR with IP replaced. -/
def withIP (l : BitVec 3) (c : Word) : Word := BitVec.extractLsb' 8 8 c ++ l ++ BitVec.extractLsb' 0 5 c

/-- The CCR with PK replaced. -/
def withPK (k : Ext) (c : Word) : Word := BitVec.extractLsb' 4 12 c ++ k

/-- CCR[15:4] from a word, PK kept (10_state.md R44). -/
def withUpper12 (v : Word) (c : Word) : Word := BitVec.extractLsb' 4 12 v ++ BitVec.extractLsb' 0 4 c

/-- CCR[15:8] from a byte, the rest kept. -/
def withUpper8 (v : Byte) (c : Word) : Word := v ++ BitVec.extractLsb' 0 8 c

/-! ### Flags from a result -/

/-- N and Z of a result. -/
def setNZ {w : Nat} (r : BitVec w) (c : Word) : Word := withN r.msb (withZ (r == 0) c)

/-- `NZ0`: N and Z of a result, V cleared (41_arithmetic.md R262). -/
def setNZ0 {w : Nat} (r : BitVec w) (c : Word) : Word := withV false (setNZ r c)

/-- N and Z of a result, and the given V and C. -/
def setNZVC {w : Nat} (r : BitVec w) (v cy : Bool) (c : Word) : Word := withC cy (withV v (setNZ r c))

/-! ### Two-operand operations -/

/-- A two-operand operation: register, operand, CCR; the result and the CCR. -/
abbrev BinOp (w : Nat) := BitVec w → BitVec w → Word → BitVec w × Word

/-- x + m + c with N, Z, V, C of `ADDFLAGS` (41_arithmetic.md R260). -/
def addWith {w : Nat} (cin : Bool) (x m : BitVec w) (ccr : Word) : BitVec w × Word :=
  let s := x.toNat + m.toNat + cin.toNat
  let r := BitVec.ofNat w s
  (r, setNZVC r (x.msb == m.msb && r.msb != x.msb) (decide (2 ^ w ≤ s)) ccr)

/-- H of `ADDFLAGS`: the carry from bit 3 (41_arithmetic.md R260). -/
def halfCarry (cin : Bool) (x m : Byte) : Bool := decide (16 ≤ x.toNat % 16 + m.toNat % 16 + cin.toNat)

/-- ADDFLAGS(8, x, m, c): H too. -/
def addWithH (cin : Bool) (x m : Byte) (ccr : Word) : Byte × Word :=
  let p := addWith cin x m ccr
  (p.1, withH (halfCarry cin x m) p.2)

/-- x - m - c with `SUBFLAGS` (41_arithmetic.md R261). -/
def subWith {w : Nat} (cin : Bool) (x m : BitVec w) (ccr : Word) : BitVec w × Word :=
  let d : Int := (x.toNat : Int) - (m.toNat : Int) - (cin.toNat : Int)
  let r := BitVec.ofInt w d
  (r, setNZVC r (x.msb != m.msb && r.msb != x.msb) (decide (d < 0)) ccr)

/-- ADD on a byte. -/
def addB : BinOp 8 := fun x m c => addWithH false x m c
/-- ADC on a byte: the carry-in is C. -/
def adcB : BinOp 8 := fun x m c => addWithH (flagC c) x m c
/-- ADD on a word. -/
def addW : BinOp 16 := fun x m c => addWith false x m c
/-- ADC on a word. -/
def adcW : BinOp 16 := fun x m c => addWith (flagC c) x m c
/-- SUB, and the compares, which discard the result. -/
def sub {w : Nat} : BinOp w := fun x m c => subWith false x m c
/-- SBC: the borrow-in is C. -/
def sbc {w : Nat} : BinOp w := fun x m c => subWith (flagC c) x m c
/-- AND (43_logic_bit.md R370). -/
def andOp {w : Nat} : BinOp w := fun x m c => (x &&& m, setNZ0 (x &&& m) c)
/-- OR. -/
def orOp {w : Nat} : BinOp w := fun x m c => (x ||| m, setNZ0 (x ||| m) c)
/-- EOR. -/
def eorOp {w : Nat} : BinOp w := fun x m c => (x ^^^ m, setNZ0 (x ^^^ m) c)
/-- A load: the operand replaces the register (40_data_movement.md R202). -/
def loadOp {w : Nat} : BinOp w := fun _ m c => (m, setNZ0 m c)

/-! ### One-operand operations -/

/-- A one-operand operation: operand and CCR; the result and the CCR. -/
abbrev UnOp (w : Nat) := BitVec w → Word → BitVec w × Word

/-- INC (41_arithmetic.md R263): C unchanged. -/
def incOp {w : Nat} : UnOp w := fun x c =>
  let r := x + 1
  (r, withV (x == BitVec.ofNat w (2 ^ (w - 1) - 1)) (setNZ r c))

/-- DEC (41_arithmetic.md R263): C unchanged. -/
def decOp {w : Nat} : UnOp w := fun x c =>
  let r := x - 1
  (r, withV (x == BitVec.ofNat w (2 ^ (w - 1))) (setNZ r c))

/-- NEG (41_arithmetic.md R263). -/
def negOp {w : Nat} : UnOp w := fun x c =>
  let r := 0 - x
  (r, setNZVC r (r == BitVec.ofNat w (2 ^ (w - 1))) (x != 0) c)

/-- COM (41_arithmetic.md R263). -/
def comOp {w : Nat} : UnOp w := fun x c => (~~~x, setNZVC (~~~x) false true c)

/-- CLR (41_arithmetic.md R263). -/
def clrOp {w : Nat} : UnOp w := fun _ c => (0, setNZVC (0#w) false false c)

/-- TST: the operand stays (41_arithmetic.md R263). -/
def tstOp {w : Nat} : UnOp w := fun x c => (x, setNZVC x false false c)

/-- N, Z, C of a shift, and V = N XOR C (44_shift_rotate.md R420). -/
def setShift {w : Nat} (r : BitVec w) (cout : Bool) (c : Word) : Word := setNZVC r (r.msb != cout) cout c

/-- LSR (44_shift_rotate.md R420). -/
def lsrOp {w : Nat} : UnOp w := fun x c =>
  let r := x >>> 1
  (r, setShift r (x.getLsbD 0) c)

/-- ASL. -/
def aslOp {w : Nat} : UnOp w := fun x c =>
  let r := x <<< 1
  (r, setShift r x.msb c)

/-- ASR: bit W-1 held. -/
def asrOp {w : Nat} : UnOp w := fun x c =>
  let r := x.sshiftRight 1
  (r, setShift r (x.getLsbD 0) c)

/-- ROL: bit 0 from C. -/
def rolOp {w : Nat} : UnOp w := fun x c =>
  let r := (x <<< 1) ||| bit w (flagC c)
  (r, setShift r x.msb c)

/-- ROR: bit W-1 from C. -/
def rorOp {w : Nat} : UnOp w := fun x c =>
  let r := (x >>> 1) ||| (bit w (flagC c) <<< (w - 1))
  (r, setShift r (x.getLsbD 0) c)

/-- Clearing the bits of a mask (43_logic_bit.md R386, R387). -/
def clearBits {w : Nat} (mask : BitVec w) : UnOp w := fun x c =>
  let r := x &&& ~~~mask
  (r, setNZ0 r c)

/-- Setting the bits of a mask (43_logic_bit.md R388, R389). -/
def setBits {w : Nat} (mask : BitVec w) : UnOp w := fun x c =>
  let r := x ||| mask
  (r, setNZ0 r c)

/-! ### DAA, multiplication and division -/

/-- DAA's correction procedure (41_arithmetic.md R290, log entry 14): the adjusted A and the new C. -/
def daaAdjust (a : Byte) (h c : Bool) : Byte × Bool :=
  let low := h || decide (9 < a.toNat % 16)
  let high := c || decide (9 < a.toNat / 16) || (decide (a.toNat / 16 = 9) && decide (9 < a.toNat % 16))
  (a + (if low then 0x06 else 0) + (if high then 0x60 else 0), high)

/-- Flags of a 32-bit product: N, Z of the product and C its bit 15 (42_mul_div.md R354, R355). -/
def setProduct (p : BitVec 32) (c : Word) : Word := withC (p.getLsbD 15) (setNZ p c)

/-! ### Branch conditions (45_program_control.md R474) -/

/-- C + Z = 0. -/
def condHI (c : Word) : Bool := !(flagC c || flagZ c)
/-- C = 0. -/
def condCC (c : Word) : Bool := !flagC c
/-- Z = 0. -/
def condNE (c : Word) : Bool := !flagZ c
/-- V = 0. -/
def condVC (c : Word) : Bool := !flagV c
/-- N = 0. -/
def condPL (c : Word) : Bool := !flagN c
/-- N XOR V = 0. -/
def condGE (c : Word) : Bool := flagN c == flagV c
/-- Z + (N XOR V) = 0. -/
def condGT (c : Word) : Bool := !(flagZ c || flagN c != flagV c)

end Sys2Proof.Machine
end

