-- ==== Sys2Proof/Machine/State.lean ====
section
/-! DEFINITION. The state of the machine, the reasons a step can stop, and the state after reset. -/

namespace Sys2Proof.Machine

/-- The five run states (60_exceptions.md R720). -/
inductive RunState where
  | running
  | stopped
  | waiting
  | halted
  | background
  deriving DecidableEq, Repr

/-- The programmer's registers outside the MAC unit (10_state.md R30 to R57). D is A : B; PK is CCR[3:0]; K is
EK : XK : YK : ZK. `pc` is biased: PK : PC is the instruction's address plus 6 (10_state.md R40). -/
structure Regs where
  a : Byte
  b : Byte
  e : Word
  ix : Word
  iy : Word
  iz : Word
  sp : Word
  pc : Word
  /-- S, MV, H, EV, N, Z, V, C, IP[2:0], SM, PK[3:0] from bit 15 down (10_state.md R45). -/
  ccr : Word
  ek : Ext
  xk : Ext
  yk : Ext
  zk : Ext
  sk : Ext
  deriving DecidableEq, Repr

/-- The registers of the MAC unit (10_state.md R59 to R61). -/
structure Mac where
  hr : Word
  ir : Word
  am : Acc
  xmsk : Byte
  ymsk : Byte
  /-- The sign latch. -/
  sl : Bool
  deriving DecidableEq, Repr

/-- Run state and pending-exception latches (10_state.md R64, 60_exceptions.md R720 to R724). -/
structure Control where
  run : RunState
  berrLatch : Bool
  /-- 1 from the start of bus error or reset processing until the handler's first instruction begins
  (60_exceptions.md R721). -/
  berrWindow : Bool
  bkptLatch : Bool
  nmiLatch : Bool
  inhibit : Bool
  /-- Background debugging was enabled at the last reset (60_exceptions.md R795). -/
  bdmFlag : Bool
  /-- The copy of IP that LPSTOP left in the external bus interface (60_exceptions.md R780). -/
  ebiIP : BitVec 3
  deriving DecidableEq, Repr

/-- What answers at an address (20_memory.md R104, R106; log entry 6). -/
inductive RegionKind where
  | ram
  | rom
  /-- Memory that reads like ROM and ends every store in BERR (20_memory.md R105). -/
  | romBusError
  | device
  | busError
  deriving DecidableEq, Repr

/-- The addresses lo to hi, both included, and what answers there. -/
structure Region where
  lo : Nat
  hi : Nat
  kind : RegionKind
  deriving DecidableEq, Repr

/-- The request lines IRQ1 to IRQ7; true is asserted (60_exceptions.md R723). -/
structure IrqLines where
  irq1 : Bool
  irq2 : Bool
  irq3 : Bool
  irq4 : Bool
  irq5 : Bool
  irq6 : Bool
  irq7 : Bool
  deriving DecidableEq, Repr

/-- `STOP_WAKE`: what wakes the processor after LPSTOP, beside a reset (60_exceptions.md R780, R782). -/
inductive StopWake where
  /-- The default of D30 of 92_eei_decisions.md: a request above the copied IP, or level 7 by its edge latch. -/
  | aboveCopy
  /-- A request at one of these levels, whatever the copied IP; the processor stays stopped until an interrupt is
  recognised against its own IP (46_index_stack_ccr.md R650, log entry 50). -/
  | levels (l : IrqLines)
  deriving DecidableEq, Repr

/-- What an interrupt acknowledge cycle returns (60_exceptions.md R755). -/
inductive IackResponse where
  | vector (n : Byte)
  | autovector
  | busError
  deriving DecidableEq, Repr

/-- What the outside sends; each step consumes at most one (log entry 34). -/
inductive Input where
  /-- The interrupt request lines take these levels. -/
  | lines (l : IrqLines)
  /-- The request lines take these levels, and from here on BKPT is asserted at the operand cycles of the ranges `data`
  and at the instruction fetches of the ranges `prog`, so that each fetch has its own answer (60_exceptions.md R722). -/
  | bkpt (l : IrqLines) (data prog : List (Nat × Nat))
  /-- MSTRST is asserted and negated; BKPT is sampled as given (60_exceptions.md R761, R762). -/
  | reset (bdmEnable : Bool)
  deriving DecidableEq, Repr

/-- The platform parameters of 00_scope.md R8 (log entry 5). -/
structure Platform where
  /-- Program space and data space are separate memories (20_memory.md R92). -/
  splitSpaces : Bool
  /-- `MEMMAP` of data space: the first region that holds an address says what answers; none is RAM. -/
  dataMap : List Region
  /-- `MEMMAP` of program space. -/
  progMap : List Region
  /-- Address ranges at which an operand cycle asserts BKPT, until the next `Input.bkpt` (60_exceptions.md R722). -/
  dataBkpt : List (Nat × Nat)
  /-- Address ranges at which an instruction fetch asserts BKPT, until the next `Input.bkpt`. -/
  progBkpt : List (Nat × Nat)
  stopWake : StopWake
  irq : IrqLines
  /-- The acknowledge responses of levels 1, 2 and so on; a missing one is a bus error (log entry 35). -/
  iack : List IackResponse
  /-- How many breakpoint acknowledge cycles have notified the platform (20_memory.md R107 (b), 60_exceptions.md R746, log
  entry 39). -/
  bkptAcks : Nat
  inputs : List Input
  /-- Words received from the development system and not yet executed (60_exceptions.md R800). -/
  bdmIn : List Word
  /-- The 17-bit words sent to it, oldest first: the answers to its transfers, each in the transfer after the one that
  called for it. -/
  bdmOut : List (BitVec 17)
  deriving DecidableEq, Repr

/-- A 1-Mbyte memory as its bytes that are not zero, in rising order of address (log entry 4). -/
abbrev Memory := List Host.Cell

/-- The whole machine. -/
structure State where
  reg : Regs
  mac : Mac
  ctl : Control
  plat : Platform
  /-- Data space, and program space too unless `splitSpaces` (20_memory.md R92, R95). -/
  mem : Memory
  /-- Program space when `splitSpaces`. -/
  prog : Memory
  /-- The model's own: which free value of Config comes next (log entry 42). -/
  free : Nat
  /-- The model's own: addresses that an instruction stored to inside its own prefetch window since the last change of
  flow (log entry 11). -/
  stale : List Nat
  /-- The model's own: START has been asserted for the instruction at the boundary, an RMAC between two of its iterations
  (60_exceptions.md R811, 47_dsp.md R679 (b), log entry 42). -/
  begun : Bool
  deriving DecidableEq, Repr

/-- Why the machine stops. -/
inductive Fault where
  /-- The run state is halted after a double bus fault (60_exceptions.md R733, 93_implementation_defined.md U22: stuck
  until reset) and no input is left that could reset it. Raised by the step. Safe: no reset, no further state. -/
  | halted
  deriving DecidableEq, Repr

/-- Why the model gives no next state. -/
inductive Refusal where
  /-- An instruction without a meaning yet. Raised by the dispatcher only. Safe. -/
  | notModelled (mnemonic : String)
  /-- A byte of the instruction was stored by an earlier instruction inside that instruction's own prefetch window, and
  no change of flow came between (20_memory.md R108, 92_eei_decisions.md D5: refuse). Raised by the step. Safe. -/
  | storeIntoPrefetchWindow
  deriving DecidableEq, Repr

/-- The answer of a meaning or of a step. -/
abbrev Result := Host.Outcome State Fault Refusal

/-- No request line asserted. -/
def IrqLines.none : IrqLines :=
  { irq1 := false, irq2 := false, irq3 := false, irq4 := false, irq5 := false, irq6 := false, irq7 := false }

/-- Registers after reset: 70_reset_and_hazards.md R820 with reset vector words of zero (log entry 3) and the values of
log entry 2 where reset leaves a register alone. S = 1, IP = 7; PK : PC is $00000 plus the bias of 6. -/
def Regs.reset : Regs :=
  { a := 0, b := 0, e := 0, ix := 0, iy := 0, iz := 0, sp := 0, pc := 6, ccr := 0x80E0,
    ek := 0, xk := 0, yk := 0, zk := 0, sk := 0 }

/-- The MAC unit after reset (log entry 2). -/
def Mac.reset : Mac :=
  { hr := 0, ir := 0, am := 0, xmsk := 0, ymsk := 0, sl := false }

/-- Latches and run state after reset (70_reset_and_hazards.md R820). -/
def Control.reset : Control :=
  { run := .running, berrLatch := false, berrWindow := true, bkptLatch := false, nmiLatch := false, inhibit := false,
    bdmFlag := false, ebiIP := 0 }

/-- The platform that the model starts from (log entries 5, 34, 35, 37, 39, 50). -/
def Platform.reset : Platform :=
  { splitSpaces := false, dataMap := [], progMap := [], dataBkpt := [], progBkpt := [],
    stopWake := .aboveCopy, irq := IrqLines.none, iack := [], bkptAcks := 0, inputs := [],
    bdmIn := [], bdmOut := [] }

/-- The machine right after reset (70_reset_and_hazards.md R820, 10_state.md R66). -/
def State.reset : State :=
  { reg := Regs.reset, mac := Mac.reset, ctl := Control.reset, plat := Platform.reset, mem := [], prog := [],
    free := 0, stale := [], begun := false }

end Sys2Proof.Machine
end

