-- ==== Sys2Proof/Machine/Ops.lean ====
section
/-! DEFINITION. The named operations over registers, memory and the stack, taking an exception and returning from one. -/

namespace Sys2Proof.Machine

/-! ### Memory -/

/-- One byte; an unlisted byte reads $00 (log entry 4). -/
def Memory.read : Memory → Nat → Byte
  | [], _ => 0
  | (k, v) :: m, a => if k = a then v else Memory.read m a

/-- The memory without any entry at an address. -/
def Memory.erase : Memory → Nat → Memory
  | [], _ => []
  | (k, w) :: m, a => if k = a then Memory.erase m a else (k, w) :: Memory.erase m a

/-- An entry put before the first one with a higher address. -/
def Memory.insert : Memory → Nat → Byte → Memory
  | [], a, v => [(a, v)]
  | (k, w) :: m, a, v => if a < k then (a, v) :: (k, w) :: m else (k, w) :: Memory.insert m a v

/-- One byte replaced. The list stays in rising order and keeps no zero byte. -/
def Memory.write (m : Memory) (a : Nat) (v : Byte) : Memory :=
  if v = 0 then Memory.erase m a else Memory.insert (Memory.erase m a) a v

/-- Every entry is at or above `from`, inside the 1-Mbyte space, in rising order and not zero. -/
def Memory.wfFrom : Nat → Memory → Bool
  | _, [] => true
  | low, (a, v) :: m => decide (low ≤ a) && decide (a < 2 ^ 20) && decide (v ≠ 0) && Memory.wfFrom (a + 1) m

/-- The canonical form: equal memories are equal lists. -/
def Memory.wf (m : Memory) : Bool := Memory.wfFrom 0 m

/-! ### Setters of one register -/

/-- A replaced. -/
def State.setA (s : State) (v : Byte) : State := { s with reg := { s.reg with a := v } }

/-- B replaced. -/
def State.setB (s : State) (v : Byte) : State := { s with reg := { s.reg with b := v } }

/-- E replaced. -/
def State.setE (s : State) (v : Word) : State := { s with reg := { s.reg with e := v } }

/-- IX replaced; XK stays (10_state.md R57). -/
def State.setIX (s : State) (v : Word) : State := { s with reg := { s.reg with ix := v } }

/-- IY replaced; YK stays. -/
def State.setIY (s : State) (v : Word) : State := { s with reg := { s.reg with iy := v } }

/-- IZ replaced; ZK stays. -/
def State.setIZ (s : State) (v : Word) : State := { s with reg := { s.reg with iz := v } }

/-- SP replaced; SK stays. -/
def State.setSP (s : State) (v : Word) : State := { s with reg := { s.reg with sp := v } }

/-- The CCR replaced, PK included. -/
def State.setCcr (s : State) (v : Word) : State := { s with reg := { s.reg with ccr := v } }

/-- EK replaced. -/
def State.setEK (s : State) (v : Ext) : State := { s with reg := { s.reg with ek := v } }

/-- XK replaced. -/
def State.setXK (s : State) (v : Ext) : State := { s with reg := { s.reg with xk := v } }

/-- YK replaced. -/
def State.setYK (s : State) (v : Ext) : State := { s with reg := { s.reg with yk := v } }

/-- ZK replaced. -/
def State.setZK (s : State) (v : Ext) : State := { s with reg := { s.reg with zk := v } }

/-- SK replaced. -/
def State.setSK (s : State) (v : Ext) : State := { s with reg := { s.reg with sk := v } }

/-- HR replaced. -/
def State.setHR (s : State) (v : Word) : State := { s with mac := { s.mac with hr := v } }

/-- IR replaced. -/
def State.setIR (s : State) (v : Word) : State := { s with mac := { s.mac with ir := v } }

/-- AM replaced. -/
def State.setAM (s : State) (v : Acc) : State := { s with mac := { s.mac with am := v } }

/-- XMSK replaced. -/
def State.setXMSK (s : State) (v : Byte) : State := { s with mac := { s.mac with xmsk := v } }

/-- YMSK replaced. -/
def State.setYMSK (s : State) (v : Byte) : State := { s with mac := { s.mac with ymsk := v } }

/-- The sign latch replaced. -/
def State.setSL (s : State) (v : Bool) : State := { s with mac := { s.mac with sl := v } }

/-- The run state replaced. -/
def State.setRun (s : State) (v : RunState) : State := { s with ctl := { s.ctl with run := v } }

/-- The BERR latch replaced. -/
def State.setBerrLatch (s : State) (v : Bool) : State := { s with ctl := { s.ctl with berrLatch := v } }

/-- The double-bus-fault window replaced. -/
def State.setBerrWindow (s : State) (v : Bool) : State := { s with ctl := { s.ctl with berrWindow := v } }

/-- The BKPT latch replaced. -/
def State.setBkptLatch (s : State) (v : Bool) : State := { s with ctl := { s.ctl with bkptLatch := v } }

/-- The IRQ7 edge latch replaced. -/
def State.setNmiLatch (s : State) (v : Bool) : State := { s with ctl := { s.ctl with nmiLatch := v } }

/-- The interrupt inhibit replaced. -/
def State.setInhibit (s : State) (v : Bool) : State := { s with ctl := { s.ctl with inhibit := v } }

/-- The IP copy of the external bus interface replaced. -/
def State.setEbiIP (s : State) (v : BitVec 3) : State := { s with ctl := { s.ctl with ebiIP := v } }

/-- The mark of an RMAC that goes on replaced. -/
def State.setBegun (s : State) (v : Bool) : State := { s with begun := v }

/-! ### Register pairs -/

/-- D, the concatenation A : B (10_state.md R30). -/
def State.d (s : State) : Word := word s.reg.a s.reg.b

/-- A write of D writes A and B (10_state.md R30). -/
def State.setD (s : State) (v : Word) : State := { s with reg := { s.reg with a := hi v, b := lo v } }

/-- E : D with E the high word (10_state.md R31). -/
def State.ed (s : State) : BitVec 32 := long s.reg.e s.d

/-- A write of E : D. -/
def State.setED (s : State) (v : BitVec 32) : State := (s.setE (hiWord v)).setD (loWord v)

/-- PK, in the CCR (10_state.md R53). -/
def State.pk (s : State) : Ext := fieldPK s.reg.ccr

/-- PK : PC, the biased program counter (10_state.md R40). -/
def State.pkpc (s : State) : Addr := pair s.pk s.reg.pc

/-- PK : PC replaced; the rest of the CCR stays. -/
def State.setPkpc (s : State) (v : Addr) : State :=
  { s with reg := { s.reg with pc := offset v, ccr := withPK (bank v) s.reg.ccr } }

/-- The address of the instruction that executes or would execute next: PK : PC minus 6 (10_state.md R40). -/
def State.ia (s : State) : Addr := s.pkpc - 6

/-- XK : IX. -/
def State.xkix (s : State) : Addr := pair s.reg.xk s.reg.ix
/-- YK : IY. -/
def State.ykiy (s : State) : Addr := pair s.reg.yk s.reg.iy
/-- ZK : IZ. -/
def State.zkiz (s : State) : Addr := pair s.reg.zk s.reg.iz
/-- SK : SP. -/
def State.sksp (s : State) : Addr := pair s.reg.sk s.reg.sp

/-- XK : IX replaced, both parts (46_index_stack_ccr.md R550 (a)). -/
def State.setXkix (s : State) (v : Addr) : State := { s with reg := { s.reg with xk := bank v, ix := offset v } }
/-- YK : IY replaced. -/
def State.setYkiy (s : State) (v : Addr) : State := { s with reg := { s.reg with yk := bank v, iy := offset v } }
/-- ZK : IZ replaced. -/
def State.setZkiz (s : State) (v : Addr) : State := { s with reg := { s.reg with zk := bank v, iz := offset v } }
/-- SK : SP replaced. -/
def State.setSksp (s : State) (v : Addr) : State := { s with reg := { s.reg with sk := bank v, sp := offset v } }

/-- K, the address extension register EK : XK : YK : ZK (10_state.md R55). -/
def State.k (s : State) : Word := s.reg.ek ++ s.reg.xk ++ s.reg.yk ++ s.reg.zk

/-- A write of K. -/
def State.setK (s : State) (v : Word) : State :=
  { s with reg := { s.reg with
      ek := BitVec.extractLsb' 12 4 v, xk := BitVec.extractLsb' 8 4 v,
      yk := BitVec.extractLsb' 4 4 v, zk := BitVec.extractLsb' 0 4 v } }

/-! ### Program counter -/

/-- Sequential execution: PK : PC moves on by the length (10_state.md R41). -/
def State.advance (s : State) (len : Nat) : State := s.setPkpc (s.pkpc + BitVec.ofNat 20 len)

/-- A change of flow to `t`: bit 0 is cleared (10_state.md R43), the pipeline is refilled (45_program_control.md R470),
so that PK : PC reads t + 6, no stale word is left (20_memory.md R108) and no instruction there has begun. -/
def State.jumpTo (s : State) (t : Addr) : State := { s.setPkpc (evenAddr t + 6) with stale := [], begun := false }

/-! ### Free values (log entry 42) -/

/-- A free bit, and the counter moved on. -/
def State.freshBit (s : State) : Bool × State := (Config.freeBit s.free, { s with free := s.free + 1 })
/-- A free byte. -/
def State.freshByte (s : State) : Byte × State := (Config.freeByte s.free, { s with free := s.free + 1 })
/-- A free word. -/
def State.freshWord (s : State) : Word × State := (Config.freeWord s.free, { s with free := s.free + 1 })
/-- A free address. -/
def State.freshAddr (s : State) : Addr × State := (Config.freeAddr s.free, { s with free := s.free + 1 })

/-! ### Function codes (20_memory.md R91, R92, R107) -/

/-- The address spaces that a bus cycle can name. -/
inductive Space where
  | data
  | program
  | cpu
  deriving DecidableEq, Repr

/-- FC[2:0] of a space: FC2 is always 1, and the reserved %100 is no space's. -/
def Space.functionCode : Space → BitVec 3
  | .data => 0b101
  | .program => 0b110
  | .cpu => 0b111

/-- The bus cycles, by what makes them. -/
inductive BusCycle where
  /-- A word of an instruction, or beyond it: `State.fetch`, `State.prefetch`. -/
  | instructionFetch (a : Addr)
  /-- A word of the reset vector: `State.applyReset`. -/
  | resetVectorFetch (a : Addr)
  /-- A vector other than the reset vector: `State.enterHandler`. -/
  | exceptionVectorFetch (a : Addr)
  /-- An operand of an instruction, a push or pull, or a word of an exception frame: `State.read8`, `State.write8`. -/
  | operandAccess (a : Addr)
  /-- RDMEM and WDMEM: `State.debugRead8`, `State.debugWrite8`. -/
  | debugDataAccess (a : Addr)
  /-- RPMEM and WPMEM: `State.debugReadProg`, `State.debugWriteProg`. -/
  | debugProgramAccess (a : Addr)
  /-- The acknowledge cycle of an interrupt level: `State.ackVector`. -/
  | interruptAcknowledge (level : BitVec 3)
  /-- `State.acknowledgeBreakpoint`. -/
  | breakpointAcknowledge
  /-- The low power stop broadcast of IP: `execLpstop`. -/
  | stopBroadcast (ip : BitVec 3)
  deriving DecidableEq, Repr

/-- The space that a bus cycle accesses (20_memory.md R92). -/
def BusCycle.space : BusCycle → Space
  | .instructionFetch _ => .program
  | .resetVectorFetch _ => .program
  | .exceptionVectorFetch _ => .data
  | .operandAccess _ => .data
  | .debugDataAccess _ => .data
  | .debugProgramAccess _ => .program
  | .interruptAcknowledge _ => .cpu
  | .breakpointAcknowledge => .cpu
  | .stopBroadcast _ => .cpu

/-- The function code that a bus cycle carries on FC[2:0] (20_memory.md R91). -/
def BusCycle.functionCode (k : BusCycle) : BitVec 3 := k.space.functionCode

/-- The memory that the platform selects by a function code: it tells program space from data space where `splitSpaces`
says that it decodes the codes (20_memory.md R92). -/
def State.decodedMemory (s : State) (fc : BitVec 3) : Memory :=
  if s.plat.splitSpaces && fc == Space.program.functionCode then s.prog else s.mem

/-! ### Bus cycles -/

/-- What answers at an address: the first region that holds it, else RAM (log entry 6). -/
def kindAt : List Region → Nat → RegionKind
  | [], _ => .ram
  | r :: rest, a => if r.lo ≤ a ∧ a ≤ r.hi then r.kind else kindAt rest a

/-- An address is in one of the ranges. -/
def inRanges : List (Nat × Nat) → Nat → Bool
  | [], _ => false
  | r :: rest, a => (decide (r.1 ≤ a) && decide (a ≤ r.2)) || inRanges rest a

/-- A double bus fault: halted, or background mode when it is enabled, with PK : PC free (60_exceptions.md R733,
93_implementation_defined.md U16, log entry 38). -/
def State.doubleBusFault (s : State) : State :=
  if s.ctl.bdmFlag then
    let p := s.freshAddr
    (p.2.setPkpc (evenAddr p.1)).setRun .background
  else s.setRun .halted

/-- A bus cycle that ends in BERR: the latch is set, or, inside the window, a double bus fault (20_memory.md R104,
60_exceptions.md R721). -/
def State.signalBusError (s : State) : State :=
  if s.ctl.berrWindow then s.doubleBusFault else s.setBerrLatch true

/-- An operand cycle at which BKPT is asserted sets the BKPT latch (60_exceptions.md R722). The cycles of an exception
frame and of its vector count as operand cycles (log entry 54). -/
def State.noteOperand (s : State) (a : Addr) : State :=
  if inRanges s.plat.dataBkpt a.toNat then s.setBkptLatch true else s

/-- Reads one byte of data space (20_memory.md R93). A failed cycle delivers a free byte (U2), and so does a device
(log entries 6, 7). -/
def State.read8 (s : State) (a : Addr) : Byte × State :=
  let s1 := s.noteOperand a
  match kindAt s.plat.dataMap a.toNat with
  | .ram => (Memory.read s1.mem a.toNat, s1)
  | .rom => (Memory.read s1.mem a.toNat, s1)
  | .romBusError => (Memory.read s1.mem a.toNat, s1)
  | .device => s1.freshByte
  | .busError => let p := s1.freshByte; (p.1, p.2.signalBusError)

/-- A store inside the storing instruction's own prefetch window is noted (20_memory.md R108, log entry 11). -/
def State.noteStale (s : State) (a : Addr) : State :=
  if !s.plat.splitSpaces && decide ((a - s.ia).toNat < 8) then { s with stale := a.toNat :: s.stale } else s

/-- Writes one byte of data space (20_memory.md R94). Only RAM keeps it; ROM ignores it or ends the cycle in
BERR, and a failed cycle changes nothing (20_memory.md R104, R105, log entries 6, 7). -/
def State.write8 (s : State) (a : Addr) (v : Byte) : State :=
  let s1 := s.noteOperand a
  match kindAt s.plat.dataMap a.toNat with
  | .ram => { s1 with mem := Memory.write s1.mem a.toNat v }.noteStale a
  | .rom => s1
  | .romBusError => s1.signalBusError
  | .device => s1
  | .busError => s1.signalBusError

/-- Reads a word: the byte at a, then the byte at a + 1 (20_memory.md R93, R99). -/
def State.read16 (s : State) (a : Addr) : Word × State :=
  let p := s.read8 a
  let q := p.2.read8 (a + 1)
  (word p.1 q.1, q.2)

/-- Writes a word, the high byte at a (20_memory.md R94, R99). -/
def State.write16 (s : State) (a : Addr) (v : Word) : State := (s.write8 a (hi v)).write8 (a + 1) (lo v)

/-- The memory that program space reads (20_memory.md R92, R95). -/
def State.progMem (s : State) : Memory := if s.plat.splitSpaces then s.prog else s.mem

/-- Reads a word of program space at an even address (20_memory.md R95); a failed cycle delivers $FFFF
(60_exceptions.md R732). -/
def State.progRead16 (s : State) (a : Addr) : Word × State :=
  match kindAt s.plat.progMap a.toNat with
  | .ram => (word (Memory.read s.progMem a.toNat) (Memory.read s.progMem (a + 1).toNat), s)
  | .rom => (word (Memory.read s.progMem a.toNat) (Memory.read s.progMem (a + 1).toNat), s)
  | .romBusError => (word (Memory.read s.progMem a.toNat) (Memory.read s.progMem (a + 1).toNat), s)
  | .device => s.freshWord
  | .busError => (0xFFFF, s.signalBusError)

/-! ### Stack (10_state.md R38) -/

/-- push16. -/
def State.push16 (s : State) (v : Word) : State :=
  let s1 := s.write16 s.sksp v
  s1.setSksp (s1.sksp - 2)

/-- pull16. -/
def State.pull16 (s : State) : Word × State :=
  let s1 := s.setSksp (s.sksp + 2)
  s1.read16 s1.sksp

/-- push8: the byte goes to SK : SP + 1. -/
def State.push8 (s : State) (v : Byte) : State :=
  let s1 := s.write8 (s.sksp + 1) v
  s1.setSksp (s1.sksp - 1)

/-- pull8: the byte comes from SK : SP + 2. -/
def State.pull8 (s : State) : Byte × State :=
  let p := s.read8 (s.sksp + 2)
  (p.1, p.2.setSksp (p.2.sksp + 1))

/-! ### The condition code register as a whole -/

/-- A write of the CCR from data. When IP goes from 7 to a lower number while IRQ7 is asserted, the edge latch is set
(60_exceptions.md R723 (b)). -/
def State.writeCcr (s : State) (v : Word) : State :=
  if fieldIP s.reg.ccr = 7 ∧ fieldIP v ≠ 7 ∧ s.plat.irq.irq7 then (s.setCcr v).setNmiLatch true else s.setCcr v

/-! ### Exceptions -/

/-- Neither halted nor in background mode: a double bus fault has not ended the work in hand. -/
def State.alive (s : State) : Bool := s.ctl.run != .halted && s.ctl.run != .background

/-- Goes on unless a double bus fault has ended the work in hand at once (60_exceptions.md R733). -/
def State.whileAlive (s : State) (f : State → State) : State := if s.alive then f s else s

/-- One word of the exception frame; a double bus fault stops it where it stands. -/
def State.stackWord (s : State) (v : Word) : State :=
  (s.write8 s.sksp (hi v)).whileAlive fun s1 =>
    (s1.write8 (s.sksp + 1) (lo v)).whileAlive fun s2 => s2.setSksp (s2.sksp - 2)

/-- PK cleared and, for an interrupt, IP set to its level and the edge latch cleared for level 7
(60_exceptions.md R740, R754). -/
def State.maskForHandler (s : State) (level : Option (BitVec 3)) : State :=
  match level with
  | none => s.setCcr (withPK 0 s.reg.ccr)
  | some l =>
    let s1 := s.setCcr (withIP l (withPK 0 s.reg.ccr))
    if l = 7 then s1.setNmiLatch false else s1

/-- The vector is read from data space at 2n and execution goes on at $0 : vector; the first handler instruction is
protected from interrupts (60_exceptions.md R736, R737, R724). -/
def State.enterHandler (s : State) (n : Byte) : State :=
  let a : Addr := zext20 n <<< 1
  let p := s.read8 a
  p.2.whileAlive fun s1 =>
    let q := s1.read8 (a + 1)
    q.2.whileAlive fun s2 => (s2.jumpTo (zext20 (word p.1 q.1))).setInhibit true

/-- TAKING AN EXCEPTION (60_exceptions.md R740): r is the value of PK : PC to stack, n the vector number, `level` the
interrupt's level. PC word, CCR word with the PK of r, mask, vector. -/
def State.takeException (s : State) (r : Addr) (n : Byte) (level : Option (BitVec 3)) : State :=
  (s.stackWord (offset r)).whileAlive fun s1 =>
    (s1.stackWord (withPK (bank r) s.reg.ccr)).whileAlive fun s2 =>
      (s2.maskForHandler level).enterHandler n

/-- A synchronous exception stacks PK : PC + 2, the instruction's address plus 8 (60_exceptions.md R742 (b)). -/
def State.takeSynchronous (s : State) (n : Byte) : State := s.takeException (s.pkpc + 2) n none

/-- An asynchronous exception stacks PK : PC, the next instruction's address plus 6 (60_exceptions.md R742 (a)). -/
def State.takeAsynchronous (s : State) (n : Byte) (level : Option (BitVec 3)) : State :=
  s.takeException s.pkpc n level

/-- RETURNING FROM AN EXCEPTION (45_program_control.md R521): the whole CCR, then PC, and PK : PC minus 6. -/
def State.returnFromException (s : State) : State :=
  let p := s.pull16
  let q := (p.2.writeCcr p.1).pull16
  q.2.jumpTo (pair q.2.pk q.1 - 6)

/-- Background mode is entered: nothing is stacked and no register changes (60_exceptions.md R796). -/
def State.enterBackground (s : State) : State := s.setRun .background

/-- Reset: registers, latches and run state, before the vector is read (70_reset_and_hazards.md R820). -/
def State.resetRegisters (s : State) (bdmEnable : Bool) : State :=
  { s with
    reg := { s.reg with
      ccr := 1#1 ++ BitVec.extractLsb' 8 7 s.reg.ccr ++ 7#3 ++ 0#1 ++ fieldPK s.reg.ccr,
      ek := 0, xk := 0, yk := 0, zk := 0, sk := 0 },
    ctl := { s.ctl with
      run := .running, berrLatch := false, berrWindow := true, bkptLatch := false, nmiLatch := false,
      inhibit := false, bdmFlag := bdmEnable },
    stale := [], begun := false }

/-- Reset: the four vector words of program space, in order (60_exceptions.md R760); a bus error on any of them is a
double bus fault. Registers that R820 does not list keep their values. DESIGN CHOICE (log entry 49): a double bus fault
leaves loaded what R820 lists before the failing read, so one at $00002 leaves ZK, SK and PK loaded and PC as it was;
60_exceptions.md R733 does not state the registers there. DESIGN CHOICE (log entry 54): BKPT asserted at one of these
fetches, which is neither an instruction prefetch nor an operand access, has no effect, neither tag nor latch; R722 and
R745 do not say what it does. -/
def State.applyReset (s : State) (bdmEnable : Bool) : State :=
  let p0 := (s.resetRegisters bdmEnable).progRead16 0
  p0.2.whileAlive fun s0 =>
    let s0 := ((s0.setZK (BitVec.extractLsb' 8 4 p0.1)).setSK (BitVec.extractLsb' 4 4 p0.1)).setCcr
      (withPK (BitVec.extractLsb' 0 4 p0.1) s0.reg.ccr)
    let p1 := s0.progRead16 2
    p1.2.whileAlive fun s1 =>
      let s1 := s1.jumpTo (pair (BitVec.extractLsb' 0 4 p0.1) p1.1)
      let p2 := s1.progRead16 4
      p2.2.whileAlive fun s2 =>
        let p3 := (s2.setSP p2.1).progRead16 6
        p3.2.whileAlive fun s3 => s3.setIZ p3.1

end Sys2Proof.Machine
end

