-- ==== Sys2Proof/Machine/Operands.lean ====
section
/-! DEFINITION. Addressing modes (20_memory.md R110 to R121), the lengths of the forms, and the shared shapes of the
instructions that combine a register with an operand. -/

namespace Sys2Proof.Machine

/-- The 20-bit index pair that an indexed form names (20_memory.md R110). -/
def State.indexPair (s : State) : Ix → Addr
  | .x => s.xkix
  | .y => s.ykiy
  | .z => s.zkiz

/-- The 16-bit index register alone. -/
def State.indexReg (s : State) : Ix → Word
  | .x => s.reg.ix
  | .y => s.reg.iy
  | .z => s.reg.iz

/-- The effective address of a memory operand. No form but IXP changes a register (20_memory.md R111 to R116). -/
def State.ea (s : State) : Mem → Addr
  | .ind8 i ff => s.indexPair i + zext20 ff
  | .ind16 i gggg => s.indexPair i + sext20 gggg
  | .ext hhll => pair s.reg.ek hhll
  | .eoff i => s.indexPair i + sext20 s.reg.e

/-- The effective address of JMP and JSR: EXT20 or IND20, which uses no extension field (20_memory.md R114, R115). -/
def State.jumpAddr (s : State) : JumpTarget → Addr
  | .ext20 b hhll => pair b hhll
  | .ind20 i off => zext20 (s.indexReg i) + off

/-- Length in bytes of an instruction with a memory operand and no other operand word (30_encoding.md R141). -/
def memLen : Mem → Nat
  | .ind8 _ _ => 2
  | .ind16 _ _ => 4
  | .ext _ => 4
  | .eoff _ => 2

/-- Length of an instruction with a byte operand. -/
def src8Len : Src8 → Nat
  | .mem m => memLen m
  | .imm _ => 2

/-- Length of an instruction with a word operand. -/
def src16Len : Src16 → Nat
  | .mem m => memLen m
  | .imm8 _ => 2
  | .imm16 _ => 4

/-- Length of AIX, AIY, AIZ, AIS. -/
def immLen : Imm → Nat
  | .i8 _ => 2
  | .i16 _ => 4

/-- Length of BRCLR and BRSET (45_program_control.md R514). -/
def relLen : Rel → Nat
  | .r8 _ => 4
  | .r16 _ => 6

/-- Length of MOVB and MOVW (40_data_movement.md R215). -/
def movLen : MovForm → Nat
  | .ixpToExt _ _ => 4
  | .extToIxp _ _ => 4
  | .extToExt _ _ => 6

/-- The signed immediate of AIX, AIY, AIZ, AIS (46_index_stack_ccr.md R569). -/
def immValue : Imm → Addr
  | .i8 ii => sext20 ii
  | .i16 jjkk => sext20 jjkk

/-- The signed offset of BRCLR and BRSET. -/
def relValue : Rel → Addr
  | .r8 rr => sext20 rr
  | .r16 rrrr => sext20 rrrr

/-- `M8` (40_data_movement.md R200). -/
def State.src8 (s : State) : Src8 → Byte × State
  | .mem m => s.read8 (s.ea m)
  | .imm ii => (ii, s)

/-- `M16`; the 8-bit immediate is sign-extended (40_data_movement.md R200, 41_arithmetic.md R264). -/
def State.src16 (s : State) : Src16 → Word × State
  | .mem m => s.read16 (s.ea m)
  | .imm8 ii => (ii.signExtend 16, s)
  | .imm16 jjkk => (jjkk, s)

/-! ### Register and operand -/

/-- A two-operand operation on A. -/
def State.binA (s : State) (op : BinOp 8) (m : Src8) : State :=
  let p := s.src8 m
  let r := op p.2.reg.a p.1 p.2.reg.ccr
  ((p.2.setA r.1).setCcr r.2).advance (src8Len m)

/-- A two-operand operation on B. -/
def State.binB (s : State) (op : BinOp 8) (m : Src8) : State :=
  let p := s.src8 m
  let r := op p.2.reg.b p.1 p.2.reg.ccr
  ((p.2.setB r.1).setCcr r.2).advance (src8Len m)

/-- A two-operand operation on D. -/
def State.binD (s : State) (op : BinOp 16) (m : Src16) : State :=
  let p := s.src16 m
  let r := op p.2.d p.1 p.2.reg.ccr
  ((p.2.setD r.1).setCcr r.2).advance (src16Len m)

/-- A two-operand operation on E. -/
def State.binE (s : State) (op : BinOp 16) (m : Src16) : State :=
  let p := s.src16 m
  let r := op p.2.reg.e p.1 p.2.reg.ccr
  ((p.2.setE r.1).setCcr r.2).advance (src16Len m)

/-- The flags of a two-operand operation on a byte register, the result discarded. -/
def State.test8 (s : State) (op : BinOp 8) (x : Byte) (m : Src8) : State :=
  let p := s.src8 m
  (p.2.setCcr (op x p.1 p.2.reg.ccr).2).advance (src8Len m)

/-- The flags of a two-operand operation on a word register, the result discarded. -/
def State.test16 (s : State) (op : BinOp 16) (x : Word) (m : Src16) : State :=
  let p := s.src16 m
  (p.2.setCcr (op x p.1 p.2.reg.ccr).2).advance (src16Len m)

/-- A load of a word register: `f` says which (46_index_stack_ccr.md R551). -/
def State.load16 (s : State) (f : State → Word → State) (m : Src16) : State :=
  let p := s.src16 m
  ((f p.2 p.1).setCcr (setNZ0 p.1 p.2.reg.ccr)).advance (src16Len m)

/-- A store of a byte register: flags from the value stored (40_data_movement.md R202). -/
def State.store8 (s : State) (v : Byte) (m : Mem) : State :=
  let t := s.write8 (s.ea m) v
  (t.setCcr (setNZ0 v t.reg.ccr)).advance (memLen m)

/-- A store of a word register. -/
def State.store16 (s : State) (v : Word) (m : Mem) : State :=
  let t := s.write16 (s.ea m) v
  (t.setCcr (setNZ0 v t.reg.ccr)).advance (memLen m)

/-! ### One operand -/

/-- A one-operand operation on A (inherent). -/
def State.unA (s : State) (op : UnOp 8) : State :=
  let r := op s.reg.a s.reg.ccr
  ((s.setA r.1).setCcr r.2).advance 2

/-- A one-operand operation on B. -/
def State.unB (s : State) (op : UnOp 8) : State :=
  let r := op s.reg.b s.reg.ccr
  ((s.setB r.1).setCcr r.2).advance 2

/-- A one-operand operation on D. -/
def State.unD (s : State) (op : UnOp 16) : State :=
  let r := op s.d s.reg.ccr
  ((s.setD r.1).setCcr r.2).advance 2

/-- A one-operand operation on E. -/
def State.unE (s : State) (op : UnOp 16) : State :=
  let r := op s.reg.e s.reg.ccr
  ((s.setE r.1).setCcr r.2).advance 2

/-- Read-modify-write of a memory byte: one read, then one write at the same address (41_arithmetic.md R264). -/
def State.rmw8 (s : State) (op : UnOp 8) (m : Mem) (len : Nat) : State :=
  let p := s.read8 (s.ea m)
  let r := op p.1 p.2.reg.ccr
  ((p.2.write8 (s.ea m) r.1).setCcr r.2).advance len

/-- Read-modify-write of a memory word. -/
def State.rmw16 (s : State) (op : UnOp 16) (m : Mem) (len : Nat) : State :=
  let p := s.read16 (s.ea m)
  let r := op p.1 p.2.reg.ccr
  ((p.2.write16 (s.ea m) r.1).setCcr r.2).advance len

/-- TST on a memory byte: one read, no write. -/
def State.testMem8 (s : State) (m : Mem) : State :=
  let p := s.read8 (s.ea m)
  (p.2.setCcr (tstOp p.1 p.2.reg.ccr).2).advance (memLen m)

/-- TSTW: one word read, no write. -/
def State.testMem16 (s : State) (m : Mem) : State :=
  let p := s.read16 (s.ea m)
  (p.2.setCcr (tstOp p.1 p.2.reg.ccr).2).advance (memLen m)

/-- CLR on a memory byte: one write, no read (41_arithmetic.md R311). -/
def State.clearMem8 (s : State) (m : Mem) : State :=
  let t := s.write8 (s.ea m) 0
  (t.setCcr (clrOp (0 : Byte) t.reg.ccr).2).advance (memLen m)

/-- CLRW: one word write, no read (41_arithmetic.md R316). -/
def State.clearMem16 (s : State) (m : Mem) : State :=
  let t := s.write16 (s.ea m) 0
  (t.setCcr (clrOp (0 : Word) t.reg.ccr).2).advance (memLen m)

/-! ### Branches -/

/-- A conditional branch of length `len` (45_program_control.md R470 to R472): a taken branch clears bit 0 of the
target. -/
def State.branch (s : State) (cond : Bool) (off : Addr) (len : Nat) : State :=
  if cond then s.jumpTo (s.pkpc + off) else s.advance len

end Sys2Proof.Machine
end

