-- ==== Sys2Proof/Machine/Debug.lean ====
section
/-! DEFINITION. Background debugging mode: the command set and its effect (60_exceptions.md R797 to R808). One command is
one step; the serial clocking is not modelled (log entry 37). -/

namespace Sys2Proof.Machine

/-- A 17-bit reply appended (60_exceptions.md R800). -/
def State.reply (s : State) (w : BitVec 17) : State :=
  { s with plat := { s.plat with bdmOut := s.plat.bdmOut ++ [w] } }

/-- Valid data: bit 16 is 0. -/
def State.replyData (s : State) (w : Word) : State := s.reply (0#1 ++ w)

/-- Command complete, status OK: 0 : $FFFF. -/
def State.replyComplete (s : State) : State := s.reply 0x0FFFF

/-- Illegal command: 1 : $FFFF. -/
def State.replyIllegal (s : State) : State := s.reply 0x1FFFF

/-- The words that are left, after a command without extension words. -/
def State.setBdmIn (s : State) (ws : List Word) : State := { s with plat := { s.plat with bdmIn := ws } }

/-- Not ready with response, come again: 1 : $0000. -/
def notReady : BitVec 17 := 0x10000

/-- `n` extension words of a command are taken, `rest` is left; the transfer of each returns NOT READY (60_exceptions.md
R800). -/
def State.takeWords (s : State) (n : Nat) (rest : List Word) : State :=
  { s with plat := { s.plat with bdmIn := rest, bdmOut := s.plat.bdmOut ++ List.replicate n notReady } }

/-- The upper bits of a word from the free value `f`, its bits [3:0] from `n`: PK and SK of RPCSP
(60_exceptions.md R804). -/
def overNibble (f : Word) (n : Ext) : Word := BitVec.extractLsb' 4 12 f ++ n

/-- A byte of data space for a debug command; a failed cycle and a device give a free byte, and bus errors are ignored
(60_exceptions.md R805). -/
def State.debugRead8 (s : State) (a : Addr) : Byte × State :=
  match kindAt s.plat.dataMap a.toNat with
  | .ram => (Memory.read s.mem a.toNat, s)
  | .rom => (Memory.read s.mem a.toNat, s)
  | .romBusError => (Memory.read s.mem a.toNat, s)
  | .device => s.freshByte
  | .busError => s.freshByte

/-- A byte of data space written by a debug command; only RAM keeps it. -/
def State.debugWrite8 (s : State) (a : Addr) (v : Byte) : State :=
  match kindAt s.plat.dataMap a.toNat with
  | .ram => { s with mem := Memory.write s.mem a.toNat v }
  | .rom => s
  | .romBusError => s
  | .device => s
  | .busError => s

/-- A word of data space, the byte at a the more significant. -/
def State.debugRead16 (s : State) (a : Addr) : Word × State :=
  let p := s.debugRead8 a
  let q := p.2.debugRead8 (a + 1)
  (word p.1 q.1, q.2)

/-- A word of data space written. -/
def State.debugWrite16 (s : State) (a : Addr) (v : Word) : State :=
  (s.debugWrite8 a (hi v)).debugWrite8 (a + 1) (lo v)

/-- A byte stored in the memory that program space reads. -/
def State.storeProg (s : State) (a : Nat) (v : Byte) : State :=
  if s.plat.splitSpaces then { s with prog := Memory.write s.prog a v } else { s with mem := Memory.write s.mem a v }

/-- RPMEM's word: the address is made even, bus errors are ignored (60_exceptions.md R806). -/
def State.debugReadProg (s : State) (a : Addr) : Word × State :=
  let a := evenAddr a
  match kindAt s.plat.progMap a.toNat with
  | .ram => (word (Memory.read s.progMem a.toNat) (Memory.read s.progMem (a + 1).toNat), s)
  | .rom => (word (Memory.read s.progMem a.toNat) (Memory.read s.progMem (a + 1).toNat), s)
  | .romBusError => (word (Memory.read s.progMem a.toNat) (Memory.read s.progMem (a + 1).toNat), s)
  | .device => s.freshWord
  | .busError => s.freshWord

/-- WPMEM's store: the address is made even; only RAM keeps it. -/
def State.debugWriteProg (s : State) (a : Addr) (v : Word) : State :=
  let a := evenAddr a
  match kindAt s.plat.progMap a.toNat with
  | .ram => (s.storeProg a.toNat (hi v)).storeProg (a + 1).toNat (lo v)
  | .rom => s
  | .romBusError => s
  | .device => s
  | .busError => s

/-- The 20-bit address of two extension words: bits [3:0] of the first are the bank (60_exceptions.md R805). -/
def debugAddr (w1 w2 : Word) : Addr := pair (nib0 w1) w2

/-- Sends the selected registers of RREGM, bit 0 to bit 6 (60_exceptions.md R802). Bits [3:0] of the CCR word are
free. -/
def State.readRegisters (s : State) (mask : Word) : State :=
  let sel (s : State) (k : Nat) (w : Word) : State := if mask.getLsbD k then s.replyData w else s
  let s0 := if mask.getLsbD 0 then
      let f := s.freshWord
      f.2.replyData (BitVec.extractLsb' 4 12 s.reg.ccr ++ nib0 f.1)
    else s
  let s1 := sel s0 1 s.k
  let s2 := sel s1 2 s.reg.iz
  let s3 := sel s2 3 s.reg.iy
  let s4 := sel s3 4 s.reg.ix
  let s5 := sel s4 5 s.reg.e
  let s6 := sel s5 6 s.d
  s6.replyComplete

/-- The registers that WREGM writes, bit 0 to bit 6, those whose mask bit is set (60_exceptions.md R802). -/
def selectedWriters (mask : Word) : List (State → Word → State) :=
  let one (k : Nat) (f : State → Word → State) : List (State → Word → State) := if mask.getLsbD k then [f] else []
  one 0 (fun s w => s.writeCcr (withUpper12 w s.reg.ccr)) ++ one 1 State.setK ++ one 2 State.setIZ ++
  one 3 State.setIY ++ one 4 State.setIX ++ one 5 State.setE ++ one 6 State.setD

/-- Writes words to registers in order, and gives the words that are left; none if words are missing. -/
def writeRegisters : List (State → Word → State) → List Word → State → Option (List Word × State)
  | [], ws, s => some (ws, s)
  | f :: fs, w :: ws, s => writeRegisters fs ws (f s w)
  | _ :: _, [], _ => none

/-- RDMAC: HR, IR, AM[15:0], AM[31:16], SL with AM[35:32], XMSK : YMSK; bits [14:4] of the fifth word are free
(60_exceptions.md R803). -/
def State.readMac (s : State) : State :=
  let m := s.mac
  let f := s.freshWord
  ((((((f.2.replyData m.hr).replyData m.ir).replyData (BitVec.extractLsb' 0 16 m.am)).replyData
    (BitVec.extractLsb' 16 16 m.am)).replyData
    (bit 1 m.sl ++ BitVec.extractLsb' 0 11 f.1 ++ BitVec.extractLsb' 32 4 m.am)).replyData (word m.xmsk m.ymsk))

/-- RPCSP: PK, PC, SK, SP; bits [15:4] of the first and third words are free (60_exceptions.md R804). -/
def State.readPcSp (s : State) : State :=
  let f := s.freshWord
  let g := f.2.freshWord
  (((g.2.replyData (overNibble f.1 s.pk)).replyData s.reg.pc).replyData (overNibble g.1 s.reg.sk)).replyData s.reg.sp

/-- RDMEM by the size bits [15:14] of its first extension word (60_exceptions.md R805). -/
def State.readData (s : State) (w1 w2 : Word) : State :=
  let a := debugAddr w1 w2
  if w1.getLsbD 15 then
    let p := s.debugRead16 a
    let q := p.2.debugRead16 (a + 2)
    (q.2.replyData p.1).replyData q.1
  else if w1.getLsbD 14 then
    let p := s.debugRead16 a
    p.2.replyData p.1
  else
    let p := s.debugRead8 a
    p.2.replyData (word 0xFF p.1)

/-- Executes the next command of the development system, if all its words have come (60_exceptions.md R801 to R808;
operation words PRESUMED where R808 says so, log entry 37). Replies in the order of R800: NOT READY for each extension
word, the results, and command complete or ILLEGAL. DESIGN CHOICE (log entry 51): GO leaves no reply, for R807 names no
result; R800 answers a command without results with command complete, and does not say so of GO. -/
def State.debugStep (s : State) : State :=
  match s.plat.bdmIn with
  | [] => s
  | op :: rest =>
    let t := s.setBdmIn rest
    if op = 0x1780 then
      match rest with
      | mask :: ws => (s.takeWords 1 ws).readRegisters mask
      | [] => s
    else if op = 0x1781 then
      match rest with
      | mask :: ws =>
        match writeRegisters (selectedWriters mask) ws s with
        | some r => (r.2.takeWords (rest.length - r.1.length) r.1).replyComplete
        | none => s
      | [] => s
    else if op = 0x1782 then t.readPcSp
    else if op = 0x1783 then
      match rest with
      | pk :: pc :: sk :: sp :: ws =>
        (((s.takeWords 4 ws).setPkpc (evenAddr (pair (nib0 pk) pc))).setSksp (pair (nib0 sk) sp)).replyComplete
      | _ => s
    else if op = 0x1784 then
      match rest with
      | w1 :: w2 :: ws => (s.takeWords 2 ws).readData w1 w2
      | _ => s
    else if op = 0x1785 then
      match rest with
      | w1 :: w2 :: w3 :: ws =>
        let a := debugAddr w1 w2
        if w1.getLsbD 15 then
          match ws with
          | w4 :: ws' => (((s.takeWords 4 ws').debugWrite16 a w3).debugWrite16 (a + 2) w4).replyComplete
          | [] => s
        else if w1.getLsbD 14 then ((s.takeWords 3 ws).debugWrite16 a w3).replyComplete
        else ((s.takeWords 3 ws).debugWrite8 a (lo w3)).replyComplete
      | _ => s
    else if op = 0x1786 then
      match rest with
      | w1 :: w2 :: ws =>
        let p := (s.takeWords 2 ws).debugReadProg (debugAddr w1 w2)
        p.2.replyData p.1
      | _ => s
    else if op = 0x1787 then
      match rest with
      | w1 :: w2 :: w3 :: ws => ((s.takeWords 3 ws).debugWriteProg (debugAddr w1 w2) w3).replyComplete
      | _ => s
    else if op = 0x1788 then { t.setRun .running with stale := [], begun := false }
    else if op = 0x1789 then t.replyComplete
    else if op = 0x178A then t.readMac
    else if op = 0x178B then
      match rest with
      | masks :: sl :: amh :: aml :: ir :: hr :: ws =>
        ((((((((s.takeWords 6 ws).setXMSK (hi masks)).setYMSK (lo masks)).setSL sl.msb).setAM
          (nib0 sl ++ amh ++ aml)).setIR ir).setHR hr).replyComplete)
      | _ => s
    else t.replyIllegal

end Sys2Proof.Machine
end

