-- ==== Sys2Proof/Machine/Arithmetic.lean ====
section
/-! DEFINITION. Meanings: addition, subtraction, BCD, compare, test, increment, decrement, clear, complement, negate
(41_arithmetic.md). -/

namespace Sys2Proof.Machine

/-- ABA (41_arithmetic.md R270). -/
def execAba (s : State) : Result :=
  let r := addB s.reg.a s.reg.b s.reg.ccr
  .next (((s.setA r.1).setCcr r.2).advance 2)

/-- ADCA (41_arithmetic.md R271). -/
def execAdca (m : Src8) (s : State) : Result :=
  .next (s.binA adcB m)

/-- ADCB (41_arithmetic.md R272). -/
def execAdcb (m : Src8) (s : State) : Result :=
  .next (s.binB adcB m)

/-- ADCD (41_arithmetic.md R273). -/
def execAdcd (m : Src16) (s : State) : Result :=
  .next (s.binD adcW m)

/-- ADCE (41_arithmetic.md R274). -/
def execAdce (m : Src16) (s : State) : Result :=
  .next (s.binE adcW m)

/-- ADDA (41_arithmetic.md R275). -/
def execAdda (m : Src8) (s : State) : Result :=
  .next (s.binA addB m)

/-- ADDB (41_arithmetic.md R276). -/
def execAddb (m : Src8) (s : State) : Result :=
  .next (s.binB addB m)

/-- ADDD (41_arithmetic.md R277). -/
def execAddd (m : Src16) (s : State) : Result :=
  .next (s.binD addW m)

/-- ADDE (41_arithmetic.md R278). -/
def execAdde (m : Src16) (s : State) : Result :=
  .next (s.binE addW m)

/-- ADE (41_arithmetic.md R279). -/
def execAde (s : State) : Result :=
  let r := addW s.reg.e s.d s.reg.ccr
  .next (((s.setE r.1).setCcr r.2).advance 2)

/-- SBA (41_arithmetic.md R280). -/
def execSba (s : State) : Result :=
  let r := sub s.reg.a s.reg.b s.reg.ccr
  .next (((s.setA r.1).setCcr r.2).advance 2)

/-- SBCA (41_arithmetic.md R281). -/
def execSbca (m : Src8) (s : State) : Result :=
  .next (s.binA sbc m)

/-- SBCB (41_arithmetic.md R282). -/
def execSbcb (m : Src8) (s : State) : Result :=
  .next (s.binB sbc m)

/-- SBCD (41_arithmetic.md R283). -/
def execSbcd (m : Src16) (s : State) : Result :=
  .next (s.binD sbc m)

/-- SBCE (41_arithmetic.md R284). -/
def execSbce (m : Src16) (s : State) : Result :=
  .next (s.binE sbc m)

/-- SDE (41_arithmetic.md R285). -/
def execSde (s : State) : Result :=
  let r := sub s.reg.e s.d s.reg.ccr
  .next (((s.setE r.1).setCcr r.2).advance 2)

/-- SUBA (41_arithmetic.md R286). -/
def execSuba (m : Src8) (s : State) : Result :=
  .next (s.binA sub m)

/-- SUBB (41_arithmetic.md R287). -/
def execSubb (m : Src8) (s : State) : Result :=
  .next (s.binB sub m)

/-- SUBD (41_arithmetic.md R288). -/
def execSubd (m : Src16) (s : State) : Result :=
  .next (s.binD sub m)

/-- SUBE (41_arithmetic.md R289). -/
def execSube (m : Src16) (s : State) : Result :=
  .next (s.binE sub m)

/-- DAA (41_arithmetic.md R290). V is undefined: a free bit (log entry 13). -/
def execDaa (s : State) : Result :=
  let r := daaAdjust s.reg.a (flagH s.reg.ccr) (flagC s.reg.ccr)
  let v := s.freshBit
  .next (((v.2.setA r.1).setCcr (setNZVC r.1 v.1 r.2 s.reg.ccr)).advance 2)

/-- SXT (41_arithmetic.md R291). N and Z test A (log entry 26); V and C stay. -/
def execSxt (s : State) : Result :=
  let r : Byte := if s.reg.b.msb then 0xFF else 0x00
  .next (((s.setA r).setCcr (setNZ r s.reg.ccr)).advance 2)

/-- CBA (41_arithmetic.md R292). -/
def execCba (s : State) : Result :=
  .next ((s.setCcr (sub s.reg.a s.reg.b s.reg.ccr).2).advance 2)

/-- CMPA (41_arithmetic.md R293). -/
def execCmpa (m : Src8) (s : State) : Result :=
  .next (s.test8 sub s.reg.a m)

/-- CMPB (41_arithmetic.md R294). -/
def execCmpb (m : Src8) (s : State) : Result :=
  .next (s.test8 sub s.reg.b m)

/-- CPD (41_arithmetic.md R295). -/
def execCpd (m : Src16) (s : State) : Result :=
  .next (s.test16 sub s.d m)

/-- CPE (41_arithmetic.md R296). -/
def execCpe (m : Src16) (s : State) : Result :=
  .next (s.test16 sub s.reg.e m)

/-- TST (41_arithmetic.md R297). -/
def execTst (m : Mem) (s : State) : Result :=
  .next (s.testMem8 m)

/-- TSTA (41_arithmetic.md R298). -/
def execTsta (s : State) : Result :=
  .next (s.unA tstOp)

/-- TSTB (41_arithmetic.md R299). -/
def execTstb (s : State) : Result :=
  .next (s.unB tstOp)

/-- TSTD (41_arithmetic.md R300). -/
def execTstd (s : State) : Result :=
  .next (s.unD tstOp)

/-- TSTE (41_arithmetic.md R301). -/
def execTste (s : State) : Result :=
  .next (s.unE tstOp)

/-- TSTW (41_arithmetic.md R302). -/
def execTstw (m : Mem) (s : State) : Result :=
  .next (s.testMem16 m)

/-- DEC (41_arithmetic.md R303). -/
def execDec (m : Mem) (s : State) : Result :=
  .next (s.rmw8 decOp m (memLen m))

/-- DECA (41_arithmetic.md R304). -/
def execDeca (s : State) : Result :=
  .next (s.unA decOp)

/-- DECB (41_arithmetic.md R305). -/
def execDecb (s : State) : Result :=
  .next (s.unB decOp)

/-- DECW (41_arithmetic.md R306). -/
def execDecw (m : Mem) (s : State) : Result :=
  .next (s.rmw16 decOp m (memLen m))

/-- INC (41_arithmetic.md R307). -/
def execInc (m : Mem) (s : State) : Result :=
  .next (s.rmw8 incOp m (memLen m))

/-- INCA (41_arithmetic.md R308). -/
def execInca (s : State) : Result :=
  .next (s.unA incOp)

/-- INCB (41_arithmetic.md R309). -/
def execIncb (s : State) : Result :=
  .next (s.unB incOp)

/-- INCW (41_arithmetic.md R310). -/
def execIncw (m : Mem) (s : State) : Result :=
  .next (s.rmw16 incOp m (memLen m))

/-- CLR (41_arithmetic.md R311). -/
def execClr (m : Mem) (s : State) : Result :=
  .next (s.clearMem8 m)

/-- CLRA (41_arithmetic.md R312). -/
def execClra (s : State) : Result :=
  .next (s.unA clrOp)

/-- CLRB (41_arithmetic.md R313). -/
def execClrb (s : State) : Result :=
  .next (s.unB clrOp)

/-- CLRD (41_arithmetic.md R314). -/
def execClrd (s : State) : Result :=
  .next (s.unD clrOp)

/-- CLRE (41_arithmetic.md R315). -/
def execClre (s : State) : Result :=
  .next (s.unE clrOp)

/-- CLRW (41_arithmetic.md R316). -/
def execClrw (m : Mem) (s : State) : Result :=
  .next (s.clearMem16 m)

/-- COM (41_arithmetic.md R317). -/
def execCom (m : Mem) (s : State) : Result :=
  .next (s.rmw8 comOp m (memLen m))

/-- COMA (41_arithmetic.md R318). -/
def execComa (s : State) : Result :=
  .next (s.unA comOp)

/-- COMB (41_arithmetic.md R319). -/
def execComb (s : State) : Result :=
  .next (s.unB comOp)

/-- COMD (41_arithmetic.md R320). -/
def execComd (s : State) : Result :=
  .next (s.unD comOp)

/-- COME (41_arithmetic.md R321). -/
def execCome (s : State) : Result :=
  .next (s.unE comOp)

/-- COMW (41_arithmetic.md R322). -/
def execComw (m : Mem) (s : State) : Result :=
  .next (s.rmw16 comOp m (memLen m))

/-- NEG (41_arithmetic.md R323). -/
def execNeg (m : Mem) (s : State) : Result :=
  .next (s.rmw8 negOp m (memLen m))

/-- NEGA (41_arithmetic.md R324). -/
def execNega (s : State) : Result :=
  .next (s.unA negOp)

/-- NEGB (41_arithmetic.md R325). -/
def execNegb (s : State) : Result :=
  .next (s.unB negOp)

/-- NEGD (41_arithmetic.md R326). -/
def execNegd (s : State) : Result :=
  .next (s.unD negOp)

/-- NEGE (41_arithmetic.md R327). -/
def execNege (s : State) : Result :=
  .next (s.unE negOp)

/-- NEGW (41_arithmetic.md R328). -/
def execNegw (m : Mem) (s : State) : Result :=
  .next (s.rmw16 negOp m (memLen m))

end Sys2Proof.Machine
end

