-- ==== Sys2Proof/Machine/DataMovement.lean ====
section
/-! DEFINITION. Meanings: loads, moves, stores, transfers and exchanges (40_data_movement.md). -/

namespace Sys2Proof.Machine

/-- LDAA (40_data_movement.md R210). -/
def execLdaa (m : Src8) (s : State) : Result :=
  .next (s.binA loadOp m)

/-- LDAB (40_data_movement.md R211). -/
def execLdab (m : Src8) (s : State) : Result :=
  .next (s.binB loadOp m)

/-- LDD (40_data_movement.md R212). -/
def execLdd (m : Src16) (s : State) : Result :=
  .next (s.binD loadOp m)

/-- LDE (40_data_movement.md R213). -/
def execLde (m : Src16) (s : State) : Result :=
  .next (s.binE loadOp m)

/-- LDED (40_data_movement.md R214). -/
def execLded (hhll : BitVec 16) (s : State) : Result :=
  let a := pair s.reg.ek hhll
  let p := s.read16 a
  let q := p.2.read16 (a + 2)
  .next (((q.2.setE p.1).setD q.1).advance 4)

/-- MOVB (40_data_movement.md R215). -/
def execMovb (f : MovForm) (s : State) : Result :=
  match f with
  | .ixpToExt ff hhll =>
    let p := s.read8 s.xkix
    let t := p.2.write8 (pair s.reg.ek hhll) p.1
    .next (((t.setXkix (t.xkix + sext20 ff)).setCcr (setNZ0 p.1 t.reg.ccr)).advance 4)
  | .extToIxp hhll ff =>
    let p := s.read8 (pair s.reg.ek hhll)
    let t := p.2.write8 s.xkix p.1
    .next (((t.setXkix (t.xkix + sext20 ff)).setCcr (setNZ0 p.1 t.reg.ccr)).advance 4)
  | .extToExt src dst =>
    let p := s.read8 (pair s.reg.ek src)
    let t := p.2.write8 (pair s.reg.ek dst) p.1
    .next ((t.setCcr (setNZ0 p.1 t.reg.ccr)).advance 6)

/-- MOVW (40_data_movement.md R216). -/
def execMovw (f : MovForm) (s : State) : Result :=
  match f with
  | .ixpToExt ff hhll =>
    let p := s.read16 s.xkix
    let t := p.2.write16 (pair s.reg.ek hhll) p.1
    .next (((t.setXkix (t.xkix + sext20 ff)).setCcr (setNZ0 p.1 t.reg.ccr)).advance 4)
  | .extToIxp hhll ff =>
    let p := s.read16 (pair s.reg.ek hhll)
    let t := p.2.write16 s.xkix p.1
    .next (((t.setXkix (t.xkix + sext20 ff)).setCcr (setNZ0 p.1 t.reg.ccr)).advance 4)
  | .extToExt src dst =>
    let p := s.read16 (pair s.reg.ek src)
    let t := p.2.write16 (pair s.reg.ek dst) p.1
    .next ((t.setCcr (setNZ0 p.1 t.reg.ccr)).advance 6)

/-- STAA (40_data_movement.md R217). -/
def execStaa (m : Mem) (s : State) : Result :=
  .next (s.store8 s.reg.a m)

/-- STAB (40_data_movement.md R218). -/
def execStab (m : Mem) (s : State) : Result :=
  .next (s.store8 s.reg.b m)

/-- STD (40_data_movement.md R219). -/
def execStd (m : Mem) (s : State) : Result :=
  .next (s.store16 s.d m)

/-- STE (40_data_movement.md R220). -/
def execSte (m : Mem) (s : State) : Result :=
  .next (s.store16 s.reg.e m)

/-- STED (40_data_movement.md R221). -/
def execSted (hhll : BitVec 16) (s : State) : Result :=
  let a := pair s.reg.ek hhll
  .next (((s.write16 a s.reg.e).write16 (a + 2) s.d).advance 4)

/-- TAB (40_data_movement.md R222). -/
def execTab (s : State) : Result :=
  .next (((s.setB s.reg.a).setCcr (setNZ0 s.reg.a s.reg.ccr)).advance 2)

/-- TBA (40_data_movement.md R223). -/
def execTba (s : State) : Result :=
  .next (((s.setA s.reg.b).setCcr (setNZ0 s.reg.b s.reg.ccr)).advance 2)

/-- TDE (40_data_movement.md R224). -/
def execTde (s : State) : Result :=
  .next (((s.setE s.d).setCcr (setNZ0 s.d s.reg.ccr)).advance 2)

/-- TED (40_data_movement.md R225). -/
def execTed (s : State) : Result :=
  .next (((s.setD s.reg.e).setCcr (setNZ0 s.reg.e s.reg.ccr)).advance 2)

/-- XGAB (40_data_movement.md R226). -/
def execXgab (s : State) : Result :=
  .next (((s.setA s.reg.b).setB s.reg.a).advance 2)

/-- XGDE (40_data_movement.md R227). -/
def execXgde (s : State) : Result :=
  .next (((s.setD s.reg.e).setE s.d).advance 2)

end Sys2Proof.Machine
end

