-- ==== Sys2Proof/Machine/IndexStack.lean ====
section
/-! DEFINITION. Meanings: index registers, extension fields, stack, CCR, LPSTOP, WAI, BGND, NOP
(46_index_stack_ccr.md). -/

namespace Sys2Proof.Machine

/-- A register of PSHM: pushed when its mask bit is set (46_index_stack_ccr.md R618). -/
def State.pushIf (s : State) (mask : Byte) (k : Nat) (v : Word) : State :=
  if mask.getLsbD k then s.push16 v else s

/-- A register of PULM: pulled when its mask bit is set (46_index_stack_ccr.md R622). -/
def State.pullIf (s : State) (mask : Byte) (k : Nat) (f : State → Word → State) : State :=
  if mask.getLsbD k then
    let p := s.pull16
    f p.2 p.1
  else s

/-- ABX (46_index_stack_ccr.md R560). -/
def execAbx (s : State) : Result :=
  .next ((s.setXkix (s.xkix + zext20 s.reg.b)).advance 2)

/-- ABY (46_index_stack_ccr.md R561). -/
def execAby (s : State) : Result :=
  .next ((s.setYkiy (s.ykiy + zext20 s.reg.b)).advance 2)

/-- ABZ (46_index_stack_ccr.md R562). -/
def execAbz (s : State) : Result :=
  .next ((s.setZkiz (s.zkiz + zext20 s.reg.b)).advance 2)

/-- ADX (46_index_stack_ccr.md R563). -/
def execAdx (s : State) : Result :=
  .next ((s.setXkix (s.xkix + sext20 s.d)).advance 2)

/-- ADY (46_index_stack_ccr.md R564). -/
def execAdy (s : State) : Result :=
  .next ((s.setYkiy (s.ykiy + sext20 s.d)).advance 2)

/-- ADZ (46_index_stack_ccr.md R565). -/
def execAdz (s : State) : Result :=
  .next ((s.setZkiz (s.zkiz + sext20 s.d)).advance 2)

/-- AEX (46_index_stack_ccr.md R566). -/
def execAex (s : State) : Result :=
  .next ((s.setXkix (s.xkix + sext20 s.reg.e)).advance 2)

/-- AEY (46_index_stack_ccr.md R567). -/
def execAey (s : State) : Result :=
  .next ((s.setYkiy (s.ykiy + sext20 s.reg.e)).advance 2)

/-- AEZ (46_index_stack_ccr.md R568). -/
def execAez (s : State) : Result :=
  .next ((s.setZkiz (s.zkiz + sext20 s.reg.e)).advance 2)

/-- AIX (46_index_stack_ccr.md R569). -/
def execAix (v : Imm) (s : State) : Result :=
  let t := s.xkix + immValue v
  .next (((s.setXkix t).setCcr (withZ (offset t == 0) s.reg.ccr)).advance (immLen v))

/-- AIY (46_index_stack_ccr.md R570). -/
def execAiy (v : Imm) (s : State) : Result :=
  let t := s.ykiy + immValue v
  .next (((s.setYkiy t).setCcr (withZ (offset t == 0) s.reg.ccr)).advance (immLen v))

/-- AIZ (46_index_stack_ccr.md R571). -/
def execAiz (v : Imm) (s : State) : Result :=
  let t := s.zkiz + immValue v
  .next (((s.setZkiz t).setCcr (withZ (offset t == 0) s.reg.ccr)).advance (immLen v))

/-- CPX (46_index_stack_ccr.md R572). -/
def execCpx (m : Src16) (s : State) : Result :=
  .next (s.test16 sub s.reg.ix m)

/-- LDX (46_index_stack_ccr.md R575). -/
def execLdx (m : Src16) (s : State) : Result :=
  .next (s.load16 State.setIX m)

/-- STX (46_index_stack_ccr.md R578). -/
def execStx (m : Mem) (s : State) : Result :=
  .next (s.store16 s.reg.ix m)

/-- CPY (46_index_stack_ccr.md R573). -/
def execCpy (m : Src16) (s : State) : Result :=
  .next (s.test16 sub s.reg.iy m)

/-- LDY (46_index_stack_ccr.md R576). -/
def execLdy (m : Src16) (s : State) : Result :=
  .next (s.load16 State.setIY m)

/-- STY (46_index_stack_ccr.md R579). -/
def execSty (m : Mem) (s : State) : Result :=
  .next (s.store16 s.reg.iy m)

/-- CPZ (46_index_stack_ccr.md R574). -/
def execCpz (m : Src16) (s : State) : Result :=
  .next (s.test16 sub s.reg.iz m)

/-- LDZ (46_index_stack_ccr.md R577). -/
def execLdz (m : Src16) (s : State) : Result :=
  .next (s.load16 State.setIZ m)

/-- STZ (46_index_stack_ccr.md R580). -/
def execStz (m : Mem) (s : State) : Result :=
  .next (s.store16 s.reg.iz m)

/-- TSX (46_index_stack_ccr.md R581). -/
def execTsx (s : State) : Result :=
  .next ((s.setXkix (s.sksp + 2)).advance 2)

/-- TSY (46_index_stack_ccr.md R582). -/
def execTsy (s : State) : Result :=
  .next ((s.setYkiy (s.sksp + 2)).advance 2)

/-- TSZ (46_index_stack_ccr.md R583). -/
def execTsz (s : State) : Result :=
  .next ((s.setZkiz (s.sksp + 2)).advance 2)

/-- TXS (46_index_stack_ccr.md R584). -/
def execTxs (s : State) : Result :=
  .next ((s.setSksp (s.xkix - 2)).advance 2)

/-- TXY (46_index_stack_ccr.md R585). -/
def execTxy (s : State) : Result :=
  .next ((s.setYkiy s.xkix).advance 2)

/-- TXZ (46_index_stack_ccr.md R586). -/
def execTxz (s : State) : Result :=
  .next ((s.setZkiz s.xkix).advance 2)

/-- TYS (46_index_stack_ccr.md R587). -/
def execTys (s : State) : Result :=
  .next ((s.setSksp (s.ykiy - 2)).advance 2)

/-- TYX (46_index_stack_ccr.md R588). -/
def execTyx (s : State) : Result :=
  .next ((s.setXkix s.ykiy).advance 2)

/-- TYZ (46_index_stack_ccr.md R589). -/
def execTyz (s : State) : Result :=
  .next ((s.setZkiz s.ykiy).advance 2)

/-- TZS (46_index_stack_ccr.md R590). -/
def execTzs (s : State) : Result :=
  .next ((s.setSksp (s.zkiz - 2)).advance 2)

/-- TZX (46_index_stack_ccr.md R591). -/
def execTzx (s : State) : Result :=
  .next ((s.setXkix s.zkiz).advance 2)

/-- TZY (46_index_stack_ccr.md R592). -/
def execTzy (s : State) : Result :=
  .next ((s.setYkiy s.zkiz).advance 2)

/-- XGDX (46_index_stack_ccr.md R593). -/
def execXgdx (s : State) : Result :=
  .next (((s.setD s.reg.ix).setIX s.d).advance 2)

/-- XGDY (46_index_stack_ccr.md R594). -/
def execXgdy (s : State) : Result :=
  .next (((s.setD s.reg.iy).setIY s.d).advance 2)

/-- XGDZ (46_index_stack_ccr.md R595). -/
def execXgdz (s : State) : Result :=
  .next (((s.setD s.reg.iz).setIZ s.d).advance 2)

/-- XGEX (46_index_stack_ccr.md R596). -/
def execXgex (s : State) : Result :=
  .next (((s.setE s.reg.ix).setIX s.reg.e).advance 2)

/-- XGEY (46_index_stack_ccr.md R597). -/
def execXgey (s : State) : Result :=
  .next (((s.setE s.reg.iy).setIY s.reg.e).advance 2)

/-- XGEZ (46_index_stack_ccr.md R598). -/
def execXgez (s : State) : Result :=
  .next (((s.setE s.reg.iz).setIZ s.reg.e).advance 2)

/-- TBEK (46_index_stack_ccr.md R600). -/
def execTbek (s : State) : Result :=
  .next ((s.setEK (BitVec.extractLsb' 0 4 s.reg.b)).advance 2)

/-- TBSK (46_index_stack_ccr.md R601). -/
def execTbsk (s : State) : Result :=
  .next ((s.setSK (BitVec.extractLsb' 0 4 s.reg.b)).advance 2)

/-- TBXK (46_index_stack_ccr.md R602). -/
def execTbxk (s : State) : Result :=
  .next ((s.setXK (BitVec.extractLsb' 0 4 s.reg.b)).advance 2)

/-- TBYK (46_index_stack_ccr.md R603). -/
def execTbyk (s : State) : Result :=
  .next ((s.setYK (BitVec.extractLsb' 0 4 s.reg.b)).advance 2)

/-- TBZK (46_index_stack_ccr.md R604). -/
def execTbzk (s : State) : Result :=
  .next ((s.setZK (BitVec.extractLsb' 0 4 s.reg.b)).advance 2)

/-- TEKB (46_index_stack_ccr.md R605). -/
def execTekb (s : State) : Result :=
  .next ((s.setB (s.reg.ek.setWidth 8)).advance 2)

/-- TSKB (46_index_stack_ccr.md R606). -/
def execTskb (s : State) : Result :=
  .next ((s.setB (s.reg.sk.setWidth 8)).advance 2)

/-- TXKB (46_index_stack_ccr.md R607). -/
def execTxkb (s : State) : Result :=
  .next ((s.setB (s.reg.xk.setWidth 8)).advance 2)

/-- TYKB (46_index_stack_ccr.md R608). -/
def execTykb (s : State) : Result :=
  .next ((s.setB (s.reg.yk.setWidth 8)).advance 2)

/-- TZKB (46_index_stack_ccr.md R609). -/
def execTzkb (s : State) : Result :=
  .next ((s.setB (s.reg.zk.setWidth 8)).advance 2)

/-- AIS (46_index_stack_ccr.md R612). -/
def execAis (v : Imm) (s : State) : Result :=
  .next ((s.setSksp (s.sksp + immValue v)).advance (immLen v))

/-- CPS (46_index_stack_ccr.md R613). -/
def execCps (m : Src16) (s : State) : Result :=
  .next (s.test16 sub s.reg.sp m)

/-- LDS (46_index_stack_ccr.md R614). -/
def execLds (m : Src16) (s : State) : Result :=
  .next (s.load16 State.setSP m)

/-- STS (46_index_stack_ccr.md R615). -/
def execSts (m : Mem) (s : State) : Result :=
  .next (s.store16 s.reg.sp m)

/-- PSHA (46_index_stack_ccr.md R616). -/
def execPsha (s : State) : Result :=
  .next ((s.push8 s.reg.a).advance 2)

/-- PSHB (46_index_stack_ccr.md R617). -/
def execPshb (s : State) : Result :=
  .next ((s.push8 s.reg.b).advance 2)

/-- PSHM (46_index_stack_ccr.md R618). Ascending bit order; bit 7 selects nothing (log entry 22). -/
def execPshm (mask : BitVec 8) (s : State) : Result :=
  let s0 := s.pushIf mask 0 s.d
  let s1 := s0.pushIf mask 1 s.reg.e
  let s2 := s1.pushIf mask 2 s.reg.ix
  let s3 := s2.pushIf mask 3 s.reg.iy
  let s4 := s3.pushIf mask 4 s.reg.iz
  let s5 := s4.pushIf mask 5 s.k
  let s6 := s5.pushIf mask 6 s.reg.ccr
  .next (s6.advance 2)

/-- PULA (46_index_stack_ccr.md R619). -/
def execPula (s : State) : Result :=
  let p := s.pull8
  .next ((p.2.setA p.1).advance 2)

/-- PULB (46_index_stack_ccr.md R620). -/
def execPulb (s : State) : Result :=
  let p := s.pull8
  .next ((p.2.setB p.1).advance 2)

/-- PULM (46_index_stack_ccr.md R622). One more word is read above the last one pulled, and discarded (log entry 22). -/
def execPulm (mask : BitVec 8) (s : State) : Result :=
  let s0 := s.pullIf mask 0 fun t w => t.writeCcr (withUpper12 w t.reg.ccr)
  let s1 := s0.pullIf mask 1 State.setK
  let s2 := s1.pullIf mask 2 State.setIZ
  let s3 := s2.pullIf mask 3 State.setIY
  let s4 := s3.pullIf mask 4 State.setIX
  let s5 := s4.pullIf mask 5 State.setE
  let s6 := s5.pullIf mask 6 State.setD
  .next ((s6.read16 (s6.sksp + 2)).2.advance 2)

/-- ANDP (46_index_stack_ccr.md R640). -/
def execAndp (jjkk : BitVec 16) (s : State) : Result :=
  .next (((s.writeCcr (withUpper12 (s.reg.ccr &&& jjkk) s.reg.ccr)).setInhibit true).advance 4)

/-- ORP (46_index_stack_ccr.md R641). -/
def execOrp (jjkk : BitVec 16) (s : State) : Result :=
  .next (((s.writeCcr (withUpper12 (s.reg.ccr ||| jjkk) s.reg.ccr)).setInhibit true).advance 4)

/-- TAP (46_index_stack_ccr.md R642). -/
def execTap (s : State) : Result :=
  .next (((s.writeCcr (withUpper8 s.reg.a s.reg.ccr)).setInhibit true).advance 2)

/-- TDP (46_index_stack_ccr.md R643). -/
def execTdp (s : State) : Result :=
  .next (((s.writeCcr (withUpper12 s.d s.reg.ccr)).setInhibit true).advance 2)

/-- TPA (46_index_stack_ccr.md R644). -/
def execTpa (s : State) : Result :=
  .next ((s.setA (hi s.reg.ccr)).advance 2)

/-- TPD (46_index_stack_ccr.md R645). -/
def execTpd (s : State) : Result :=
  .next ((s.setD s.reg.ccr).advance 2)

/-- LPSTOP (46_index_stack_ccr.md R652). -/
def execLpstop (s : State) : Result :=
  if flagS s.reg.ccr then .next (s.advance 2)
  else .next (((s.setEbiIP (fieldIP s.reg.ccr)).setRun .stopped).advance 2)

/-- WAI (46_index_stack_ccr.md R653). -/
def execWai (s : State) : Result :=
  .next ((s.setRun .waiting).advance 2)

/-- BGND (46_index_stack_ccr.md R655). Enabled: background mode with PK : PC = IA + 8 (log entry 30). Disabled: illegal instruction. -/
def execBgnd (s : State) : Result :=
  if s.ctl.bdmFlag then .next ((s.advance 2).enterBackground)
  else .next (s.takeSynchronous 7)

/-- NOP (46_index_stack_ccr.md R656). -/
def execNop (s : State) : Result :=
  .next (s.advance 2)

end Sys2Proof.Machine
end

