-- ==== Sys2Proof/Machine/Logic.lean ====
section
/-! DEFINITION. Meanings: Boolean logic, bit test and bit manipulation (43_logic_bit.md). -/

namespace Sys2Proof.Machine

/-- ANDA (43_logic_bit.md R372). -/
def execAnda (m : Src8) (s : State) : Result :=
  .next (s.binA andOp m)

/-- ANDB (43_logic_bit.md R373). -/
def execAndb (m : Src8) (s : State) : Result :=
  .next (s.binB andOp m)

/-- ANDD (43_logic_bit.md R374). -/
def execAndd (m : Src16) (s : State) : Result :=
  .next (s.binD andOp m)

/-- ANDE (43_logic_bit.md R375). -/
def execAnde (m : Src16) (s : State) : Result :=
  .next (s.binE andOp m)

/-- EORA (43_logic_bit.md R376). -/
def execEora (m : Src8) (s : State) : Result :=
  .next (s.binA eorOp m)

/-- EORB (43_logic_bit.md R377). -/
def execEorb (m : Src8) (s : State) : Result :=
  .next (s.binB eorOp m)

/-- EORD (43_logic_bit.md R378). -/
def execEord (m : Src16) (s : State) : Result :=
  .next (s.binD eorOp m)

/-- EORE (43_logic_bit.md R379). -/
def execEore (m : Src16) (s : State) : Result :=
  .next (s.binE eorOp m)

/-- ORAA (43_logic_bit.md R380). -/
def execOraa (m : Src8) (s : State) : Result :=
  .next (s.binA orOp m)

/-- ORAB (43_logic_bit.md R381). -/
def execOrab (m : Src8) (s : State) : Result :=
  .next (s.binB orOp m)

/-- ORD (43_logic_bit.md R382). -/
def execOrd (m : Src16) (s : State) : Result :=
  .next (s.binD orOp m)

/-- ORE (43_logic_bit.md R383). -/
def execOre (m : Src16) (s : State) : Result :=
  .next (s.binE orOp m)

/-- BITA (43_logic_bit.md R384). -/
def execBita (m : Src8) (s : State) : Result :=
  .next (s.test8 andOp s.reg.a m)

/-- BITB (43_logic_bit.md R385). -/
def execBitb (m : Src8) (s : State) : Result :=
  .next (s.test8 andOp s.reg.b m)

/-- BCLR (43_logic_bit.md R386). -/
def execBclr (m : Mem) (mm : BitVec 8) (s : State) : Result :=
  .next (s.rmw8 (clearBits mm) m 4)

/-- BCLRW (43_logic_bit.md R387). -/
def execBclrw (m : Mem) (mmmm : BitVec 16) (s : State) : Result :=
  .next (s.rmw16 (clearBits mmmm) m 6)

/-- BSET (43_logic_bit.md R388). -/
def execBset (m : Mem) (mm : BitVec 8) (s : State) : Result :=
  .next (s.rmw8 (setBits mm) m 4)

/-- BSETW (43_logic_bit.md R389). -/
def execBsetw (m : Mem) (mmmm : BitVec 16) (s : State) : Result :=
  .next (s.rmw16 (setBits mmmm) m 6)

end Sys2Proof.Machine
end

