-- ==== Sys2Proof/Machine/MacUnit.lean ====
section
/-! DEFINITION. Meanings: the multiply and accumulate unit (47_dsp.md). -/

namespace Sys2Proof.Machine

/-- `EVof`: bits [35:31] are not all equal (47_dsp.md R661). -/
def evOf (x : Acc) : Bool :=
  let t := BitVec.extractLsb' 31 5 x
  t != 0 && t != 31

/-- MV and SL after an operation on AM: on overflow MV is set, and SL takes bit 35 of the result unless MV was set
(47_dsp.md R662). -/
def State.noteSignOverflow (s : State) (ovf top : Bool) : State :=
  if ovf then
    let s1 := if flagMV s.reg.ccr then s else s.setSL top
    s1.setCcr (withMV true s1.reg.ccr)
  else s

/-- AM + b modulo 2^36, with MV, SL and EV (47_dsp.md R661, R662). -/
def State.accumulate (s : State) (b : Acc) : State :=
  let a := s.mac.am
  let r := a + b
  let t := (s.setAM r).noteSignOverflow (a.msb == b.msb && r.msb != a.msb) r.msb
  t.setCcr (withEV (evOf r) t.reg.ccr)

/-- `Prod`: the 32-bit product, the 36-bit addend, and whether both were -1 (47_dsp.md R665). -/
def macProduct (h i : Word) : BitVec 32 × Acc × Bool :=
  if h = 0x8000 ∧ i = 0x8000 then (0x80000000, 0x080000000, true)
  else
    let p := BitVec.ofInt 32 (h.toInt * i.toInt * 2)
    (p, sext36 p, false)

/-- The set bits of a mask are right-justified (47_dsp.md R664). -/
def rightJustified (m : Byte) : Bool := m &&& (m + 1) == 0

/-- `Qualify` for a mask whose set bits are right-justified (47_dsp.md R664). -/
def qualify (r : Word) (mask : Byte) (off : Ext) : Word :=
  let o : Word := off.signExtend 16
  let m : Word := mask.setWidth 16
  if mask = 0 then r + o else (r &&& ~~~m) ||| ((r + o) &&& m)

/-- The new value of an index register; a mask that is not right-justified gives a free word (log entry 20). -/
def State.nextIndex (s : State) (r : Word) (mask : Byte) (off : Ext) : Word × State :=
  if rightJustified mask then (qualify r mask off, s) else s.freshWord

/-- IX and IY move by their 4-bit offsets; XK and YK stay (47_dsp.md R664). -/
def State.moveIndexes (s : State) (xo yo : Ext) : State :=
  let p := s.nextIndex s.reg.ix s.mac.xmsk xo
  let q := p.2.nextIndex s.reg.iy s.mac.ymsk yo
  (q.2.setIX p.1).setIY q.1

/-- HR and IR from XK : IX and YK : IY, in that order (47_dsp.md R675, R676). -/
def State.loadHRIR (s : State) : State :=
  let p := s.read16 s.xkix
  let q := p.2.read16 s.ykiy
  (q.2.setHR p.1).setIR q.1

/-- Convergent rounding of AM to its upper bits (47_dsp.md R680). -/
def roundAM (a : Acc) : Acc :=
  let low := BitVec.extractLsb' 0 16 a
  if 0x8000#16 < low ∨ (low = 0x8000#16 ∧ a.getLsbD 16) then a + 0x000010000 else a

/-- The saturation value when SM and (EV or MV), else the value given (47_dsp.md R663). -/
def State.saturated (s : State) (v : Word) : Word :=
  let c := s.reg.ccr
  if flagSM c && (flagEV c || flagMV c) then
    if flagMV c then (if s.mac.sl then 0x7FFF else 0x8000)
    else (if s.mac.am.msb then 0x8000 else 0x7FFF)
  else v

/-- ACE (47_dsp.md R670). -/
def execAce (s : State) : Result :=
  .next ((s.accumulate (sext36 (long s.reg.e 0))).advance 2)

/-- ACED (47_dsp.md R671). -/
def execAced (s : State) : Result :=
  .next ((s.accumulate (sext36 s.ed)).advance 2)

/-- ASLM (47_dsp.md R672). -/
def execAslm (s : State) : Result :=
  let a := s.mac.am
  let r := a <<< 1
  let t := (s.setAM r).noteSignOverflow (r.msb != a.msb) r.msb
  .next ((t.setCcr (withC a.msb (withN r.msb (withEV (evOf r) t.reg.ccr)))).advance 2)

/-- ASRM (47_dsp.md R673). -/
def execAsrm (s : State) : Result :=
  let a := s.mac.am
  let r := a.sshiftRight 1
  .next (((s.setAM r).setCcr (withC (a.getLsbD 0) (withN r.msb (withEV (evOf r) s.reg.ccr)))).advance 2)

/-- CLRM (47_dsp.md R674). -/
def execClrm (s : State) : Result :=
  .next (((s.setAM 0).setCcr (withEV false (withMV false s.reg.ccr))).advance 2)

/-- LDHI (47_dsp.md R675). -/
def execLdhi (s : State) : Result :=
  .next (s.loadHRIR.advance 2)

/-- MAC (47_dsp.md R676). -/
def execMac (xo : BitVec 4) (yo : BitVec 4) (s : State) : Result :=
  let p := macProduct s.mac.hr s.mac.ir
  let t := (s.setED p.1).accumulate p.2.1
  let u := ((t.moveIndexes xo yo).setIZ s.mac.hr).loadHRIR
  .next ((u.setCcr (withV p.2.2 u.reg.ccr)).advance 2)

/-- PSHMAC (47_dsp.md R677). -/
def execPshmac (s : State) : Result :=
  let m := s.mac
  let s0 := s.push16 m.hr
  let s1 := s0.push16 m.ir
  let s2 := s1.push16 (BitVec.extractLsb' 0 16 m.am)
  let s3 := s2.push16 (BitVec.extractLsb' 16 16 m.am)
  let s4 := s3.push16 (bit 1 m.sl ++ 0#11 ++ BitVec.extractLsb' 32 4 m.am)
  let s5 := s4.push16 (word m.xmsk m.ymsk)
  .next (s5.advance 2)

/-- PULMAC (47_dsp.md R678). -/
def execPulmac (s : State) : Result :=
  let masks := s.pull16
  let sl := masks.2.pull16
  let amh := sl.2.pull16
  let aml := amh.2.pull16
  let ir := aml.2.pull16
  let hr := ir.2.pull16
  .next (((((((hr.2.setXMSK (hi masks.1)).setYMSK (lo masks.1)).setSL sl.1.msb).setAM
    (nib0 sl.1 ++ amh.1 ++ aml.1)).setIR ir.1).setHR hr.1).advance 2)

/-- RMAC (47_dsp.md R679). One iteration: while E is then not negative, PK : PC stays and the same instruction executes again (47_dsp.md R679 (b), log
entry 27). D is free, and E is free at the end (log entry 19). Between iterations it counts as begun (60_exceptions.md
R811). -/
def execRmac (xo : BitVec 4) (yo : BitVec 4) (s : State) : Result :=
  let p := macProduct s.mac.hr s.mac.ir
  let t := ((s.accumulate p.2.1).moveIndexes xo yo).loadHRIR
  let n := t.reg.e - 1
  let d := t.freshWord
  if n.msb then
    let e := d.2.freshWord
    .next ((((e.2.setD d.1).setE e.1).advance 2).setBegun false)
  else .next (((d.2.setD d.1).setE n).setBegun true)

/-- TMER (47_dsp.md R680). EV and MV are only set, never cleared (log entry 29). -/
def execTmer (s : State) : Result :=
  let temp := roundAM s.mac.am
  let t := s.noteSignOverflow (!s.mac.am.msb && temp.msb) temp.msb
  let c := if evOf temp then withEV true t.reg.ccr else t.reg.ccr
  let r := (t.setCcr c).saturated (BitVec.extractLsb' 16 16 temp)
  .next (((t.setCcr (setNZ r c)).setE r).advance 2)

/-- TMET (47_dsp.md R681). -/
def execTmet (s : State) : Result :=
  let r := s.saturated (BitVec.extractLsb' 16 16 s.mac.am)
  .next (((s.setE r).setCcr (setNZ r s.reg.ccr)).advance 2)

/-- TDMSK (47_dsp.md R682). -/
def execTdmsk (s : State) : Result :=
  .next (((s.setXMSK (hi s.d)).setYMSK (lo s.d)).advance 2)

/-- TEDM (47_dsp.md R683). -/
def execTedm (s : State) : Result :=
  .next (((s.setAM (sext36 s.ed)).setCcr (withEV false (withMV false s.reg.ccr))).advance 2)

/-- TEM (47_dsp.md R684). -/
def execTem (s : State) : Result :=
  .next (((s.setAM (sext36 (long s.reg.e 0))).setCcr (withEV false (withMV false s.reg.ccr))).advance 2)

/-- TMXED (47_dsp.md R685). -/
def execTmxed (s : State) : Result :=
  let a := s.mac.am
  .next (((s.setIX ((BitVec.extractLsb' 32 4 a).signExtend 16)).setED (BitVec.extractLsb' 0 32 a)).advance 2)

end Sys2Proof.Machine
end

