-- ==== Sys2Proof/Machine/MulDiv.lean ====
section
/-! DEFINITION. Meanings: multiplication and division (42_mul_div.md). -/

namespace Sys2Proof.Machine

/-- A zero divisor of EDIV or EDIVS: N, Z, V, C are free as stacked (log entry 15), E, D and IX stay, vector 8
(42_mul_div.md R352 (a), 60_exceptions.md R771). -/
def State.divideByZero (s : State) : State :=
  let n := s.freshBit
  let z := n.2.freshBit
  let v := z.2.freshBit
  let c := v.2.freshBit
  (c.2.setCcr (withC c.1 (withV v.1 (withZ z.1 (withN n.1 s.reg.ccr))))).takeSynchronous 8

/-- A quotient of EDIV or EDIVS that does not fit: V is set; N, Z, C, IX and D are free (log entry 16). -/
def State.divideOverflow (s : State) : State :=
  let n := s.freshBit
  let z := n.2.freshBit
  let c := z.2.freshBit
  let q := c.2.freshWord
  let r := q.2.freshWord
  ((r.2.setIX q.1).setD r.1).setCcr (withC c.1 (withV true (withZ z.1 (withN n.1 s.reg.ccr))))

/-- A quotient that fits: IX, D and the flags of EDIV and EDIVS (42_mul_div.md R352 (c), R353 (c)). -/
def State.setQuotient (s : State) (q r : Word) (half : Bool) : State :=
  ((s.setIX q).setD r).setCcr (setNZVC q false half s.reg.ccr)

/-- EDIV (42_mul_div.md R352). -/
def execEdiv (s : State) : Result :=
  let n := s.ed.toNat
  let d := s.reg.ix.toNat
  if d = 0 then .next s.divideByZero
  else if 2 ^ 16 ≤ n / d then .next (s.divideOverflow.advance 2)
  else .next ((s.setQuotient (BitVec.ofNat 16 (n / d)) (BitVec.ofNat 16 (n % d)) (decide (d ≤ 2 * (n % d)))).advance 2)

/-- EDIVS (42_mul_div.md R353). Quotient truncated toward zero (log entry 17). -/
def execEdivs (s : State) : Result :=
  let n := s.ed.toInt
  let d := s.reg.ix.toInt
  if d = 0 then .next s.divideByZero
  else if n.tdiv d < -32768 ∨ 32767 < n.tdiv d then .next (s.divideOverflow.advance 2)
  else .next ((s.setQuotient (BitVec.ofInt 16 (n.tdiv d)) (BitVec.ofInt 16 (n.tmod d))
    (decide (d.natAbs ≤ 2 * (n.tmod d).natAbs))).advance 2)

/-- EMUL (42_mul_div.md R354). -/
def execEmul (s : State) : Result :=
  let p := BitVec.ofNat 32 (s.reg.e.toNat * s.d.toNat)
  .next (((s.setED p).setCcr (setProduct p s.reg.ccr)).advance 2)

/-- EMULS (42_mul_div.md R355). -/
def execEmuls (s : State) : Result :=
  let p := BitVec.ofInt 32 (s.reg.e.toInt * s.d.toInt)
  .next (((s.setED p).setCcr (setProduct p s.reg.ccr)).advance 2)

/-- FDIV (42_mul_div.md R356). D is free when the quotient does not fit (log entry 18). N stays. -/
def execFdiv (s : State) : Result :=
  let n := s.d.toNat
  let d := s.reg.ix.toNat
  if d = 0 ∨ d ≤ n then
    let r := s.freshWord
    .next ((((r.2.setIX 0xFFFF).setD r.1).setCcr
      (withC (decide (d = 0)) (withV true (withZ false s.reg.ccr)))).advance 2)
  else
    let q := BitVec.ofNat 16 (n * 2 ^ 16 / d)
    .next ((((s.setIX q).setD (BitVec.ofNat 16 (n * 2 ^ 16 % d))).setCcr
      (withC false (withV false (withZ (q == 0) s.reg.ccr)))).advance 2)

/-- FMULS (42_mul_div.md R357). -/
def execFmuls (s : State) : Result :=
  let t := BitVec.ofInt 32 (s.reg.e.toInt * s.d.toInt) <<< 1
  let sq := s.reg.e == 0x8000#16 && s.d == 0x8000#16
  .next (((s.setED t).setCcr (withV sq (setProduct t s.reg.ccr))).advance 2)

/-- IDIV (42_mul_div.md R358). D is free on a zero divisor (log entry 18). N stays. -/
def execIdiv (s : State) : Result :=
  let n := s.d.toNat
  let d := s.reg.ix.toNat
  if d = 0 then
    let r := s.freshWord
    .next ((((r.2.setIX 0xFFFF).setD r.1).setCcr
      (withC true (withV false (withZ false s.reg.ccr)))).advance 2)
  else
    let q := BitVec.ofNat 16 (n / d)
    .next ((((s.setIX q).setD (BitVec.ofNat 16 (n % d))).setCcr
      (withC false (withV false (withZ (q == 0) s.reg.ccr)))).advance 2)

/-- MUL (42_mul_div.md R359). -/
def execMul (s : State) : Result :=
  let p := BitVec.ofNat 16 (s.reg.a.toNat * s.reg.b.toNat)
  .next (((s.setD p).setCcr (withC (p.getLsbD 7) s.reg.ccr)).advance 2)

end Sys2Proof.Machine
end

