-- ==== Sys2Proof/Machine/ProgramControl.lean ====
section
/-! DEFINITION. Meanings: branches, jumps, calls, returns and SWI (45_program_control.md). -/

namespace Sys2Proof.Machine

/-- The frame of a subroutine call: the return PC word, then the CCR with the PK of the return value
(45_program_control.md R475). -/
def State.stackCall (s : State) (r : Addr) : State :=
  (s.push16 (offset r)).push16 (withPK (bank r) s.reg.ccr)

/-- BRA (45_program_control.md R480). -/
def execBra (rr : BitVec 8) (s : State) : Result :=
  .next (s.branch true (sext20 rr) 2)

/-- BRN (45_program_control.md R481). -/
def execBrn (rr : BitVec 8) (s : State) : Result :=
  .next (s.branch false (sext20 rr) 2)

/-- BCC (45_program_control.md R482). -/
def execBcc (rr : BitVec 8) (s : State) : Result :=
  .next (s.branch (condCC s.reg.ccr) (sext20 rr) 2)

/-- BCS (45_program_control.md R483). -/
def execBcs (rr : BitVec 8) (s : State) : Result :=
  .next (s.branch (flagC s.reg.ccr) (sext20 rr) 2)

/-- BEQ (45_program_control.md R484). -/
def execBeq (rr : BitVec 8) (s : State) : Result :=
  .next (s.branch (flagZ s.reg.ccr) (sext20 rr) 2)

/-- BGE (45_program_control.md R485). -/
def execBge (rr : BitVec 8) (s : State) : Result :=
  .next (s.branch (condGE s.reg.ccr) (sext20 rr) 2)

/-- BGT (45_program_control.md R486). -/
def execBgt (rr : BitVec 8) (s : State) : Result :=
  .next (s.branch (condGT s.reg.ccr) (sext20 rr) 2)

/-- BHI (45_program_control.md R487). -/
def execBhi (rr : BitVec 8) (s : State) : Result :=
  .next (s.branch (condHI s.reg.ccr) (sext20 rr) 2)

/-- BLE (45_program_control.md R488). -/
def execBle (rr : BitVec 8) (s : State) : Result :=
  .next (s.branch (!condGT s.reg.ccr) (sext20 rr) 2)

/-- BLS (45_program_control.md R489). -/
def execBls (rr : BitVec 8) (s : State) : Result :=
  .next (s.branch (!condHI s.reg.ccr) (sext20 rr) 2)

/-- BLT (45_program_control.md R490). -/
def execBlt (rr : BitVec 8) (s : State) : Result :=
  .next (s.branch (!condGE s.reg.ccr) (sext20 rr) 2)

/-- BMI (45_program_control.md R491). -/
def execBmi (rr : BitVec 8) (s : State) : Result :=
  .next (s.branch (flagN s.reg.ccr) (sext20 rr) 2)

/-- BNE (45_program_control.md R492). -/
def execBne (rr : BitVec 8) (s : State) : Result :=
  .next (s.branch (condNE s.reg.ccr) (sext20 rr) 2)

/-- BPL (45_program_control.md R493). -/
def execBpl (rr : BitVec 8) (s : State) : Result :=
  .next (s.branch (condPL s.reg.ccr) (sext20 rr) 2)

/-- BVC (45_program_control.md R494). -/
def execBvc (rr : BitVec 8) (s : State) : Result :=
  .next (s.branch (condVC s.reg.ccr) (sext20 rr) 2)

/-- BVS (45_program_control.md R495). -/
def execBvs (rr : BitVec 8) (s : State) : Result :=
  .next (s.branch (flagV s.reg.ccr) (sext20 rr) 2)

/-- LBRA (45_program_control.md R496). -/
def execLbra (rrrr : BitVec 16) (s : State) : Result :=
  .next (s.branch true (sext20 rrrr) 4)

/-- LBRN (45_program_control.md R497). -/
def execLbrn (rrrr : BitVec 16) (s : State) : Result :=
  .next (s.branch false (sext20 rrrr) 4)

/-- LBCC (45_program_control.md R498). -/
def execLbcc (rrrr : BitVec 16) (s : State) : Result :=
  .next (s.branch (condCC s.reg.ccr) (sext20 rrrr) 4)

/-- LBCS (45_program_control.md R499). -/
def execLbcs (rrrr : BitVec 16) (s : State) : Result :=
  .next (s.branch (flagC s.reg.ccr) (sext20 rrrr) 4)

/-- LBEQ (45_program_control.md R500). -/
def execLbeq (rrrr : BitVec 16) (s : State) : Result :=
  .next (s.branch (flagZ s.reg.ccr) (sext20 rrrr) 4)

/-- LBGE (45_program_control.md R502). -/
def execLbge (rrrr : BitVec 16) (s : State) : Result :=
  .next (s.branch (condGE s.reg.ccr) (sext20 rrrr) 4)

/-- LBGT (45_program_control.md R503). -/
def execLbgt (rrrr : BitVec 16) (s : State) : Result :=
  .next (s.branch (condGT s.reg.ccr) (sext20 rrrr) 4)

/-- LBHI (45_program_control.md R504). -/
def execLbhi (rrrr : BitVec 16) (s : State) : Result :=
  .next (s.branch (condHI s.reg.ccr) (sext20 rrrr) 4)

/-- LBLE (45_program_control.md R505). -/
def execLble (rrrr : BitVec 16) (s : State) : Result :=
  .next (s.branch (!condGT s.reg.ccr) (sext20 rrrr) 4)

/-- LBLS (45_program_control.md R506). -/
def execLbls (rrrr : BitVec 16) (s : State) : Result :=
  .next (s.branch (!condHI s.reg.ccr) (sext20 rrrr) 4)

/-- LBLT (45_program_control.md R507). -/
def execLblt (rrrr : BitVec 16) (s : State) : Result :=
  .next (s.branch (!condGE s.reg.ccr) (sext20 rrrr) 4)

/-- LBMI (45_program_control.md R508). -/
def execLbmi (rrrr : BitVec 16) (s : State) : Result :=
  .next (s.branch (flagN s.reg.ccr) (sext20 rrrr) 4)

/-- LBNE (45_program_control.md R510). -/
def execLbne (rrrr : BitVec 16) (s : State) : Result :=
  .next (s.branch (condNE s.reg.ccr) (sext20 rrrr) 4)

/-- LBPL (45_program_control.md R511). -/
def execLbpl (rrrr : BitVec 16) (s : State) : Result :=
  .next (s.branch (condPL s.reg.ccr) (sext20 rrrr) 4)

/-- LBVC (45_program_control.md R512). -/
def execLbvc (rrrr : BitVec 16) (s : State) : Result :=
  .next (s.branch (condVC s.reg.ccr) (sext20 rrrr) 4)

/-- LBVS (45_program_control.md R513). -/
def execLbvs (rrrr : BitVec 16) (s : State) : Result :=
  .next (s.branch (flagV s.reg.ccr) (sext20 rrrr) 4)

/-- LBEV (45_program_control.md R501). -/
def execLbev (rrrr : BitVec 16) (s : State) : Result :=
  .next (s.branch (flagEV s.reg.ccr) (sext20 rrrr) 4)

/-- LBMV (45_program_control.md R509). -/
def execLbmv (rrrr : BitVec 16) (s : State) : Result :=
  .next (s.branch (flagMV s.reg.ccr) (sext20 rrrr) 4)

/-- BRCLR (45_program_control.md R514). -/
def execBrclr (m : Mem) (mm : BitVec 8) (r : Rel) (s : State) : Result :=
  let p := s.read8 (s.ea m)
  .next (p.2.branch (p.1 &&& mm == 0) (relValue r) (relLen r))

/-- BRSET (45_program_control.md R515). -/
def execBrset (m : Mem) (mm : BitVec 8) (r : Rel) (s : State) : Result :=
  let p := s.read8 (s.ea m)
  .next (p.2.branch (~~~p.1 &&& mm == 0) (relValue r) (relLen r))

/-- JMP (45_program_control.md R516). -/
def execJmp (t : JumpTarget) (s : State) : Result :=
  .next (s.jumpTo (s.jumpAddr t))

/-- BSR (45_program_control.md R517). PK : PC is lowered by 2 first, so the target is relative to IA + 4 (log entry 21). -/
def execBsr (rr : BitVec 8) (s : State) : Result :=
  let r := s.pkpc - 2
  .next ((s.stackCall r).jumpTo (r + sext20 rr))

/-- JSR (45_program_control.md R518). -/
def execJsr (t : JumpTarget) (s : State) : Result :=
  .next ((s.stackCall s.pkpc).jumpTo (s.jumpAddr t))

/-- LBSR (45_program_control.md R519). -/
def execLbsr (rrrr : BitVec 16) (s : State) : Result :=
  .next ((s.stackCall s.pkpc).jumpTo (s.pkpc + sext20 rrrr))

/-- RTS (45_program_control.md R520). -/
def execRts (s : State) : Result :=
  let p := s.pull16
  let q := p.2.pull16
  .next (q.2.jumpTo (pair (fieldPK p.1) q.1 - 2))

/-- RTI (45_program_control.md R521). -/
def execRti (s : State) : Result :=
  .next s.returnFromException

/-- SWI (45_program_control.md R522). -/
def execSwi (s : State) : Result :=
  .next (s.takeSynchronous 6)

end Sys2Proof.Machine
end

