-- ==== Sys2Proof/Machine/Shift.lean ====
section
/-! DEFINITION. Meanings: shifts and rotates (44_shift_rotate.md). -/

namespace Sys2Proof.Machine

/-- LSR (44_shift_rotate.md R422). -/
def execLsr (m : Mem) (s : State) : Result :=
  .next (s.rmw8 lsrOp m (memLen m))

/-- LSRA (44_shift_rotate.md R423). -/
def execLsra (s : State) : Result :=
  .next (s.unA lsrOp)

/-- LSRB (44_shift_rotate.md R424). -/
def execLsrb (s : State) : Result :=
  .next (s.unB lsrOp)

/-- LSRD (44_shift_rotate.md R425). -/
def execLsrd (s : State) : Result :=
  .next (s.unD lsrOp)

/-- LSRE (44_shift_rotate.md R426). -/
def execLsre (s : State) : Result :=
  .next (s.unE lsrOp)

/-- LSRW (44_shift_rotate.md R427). -/
def execLsrw (m : Mem) (s : State) : Result :=
  .next (s.rmw16 lsrOp m (memLen m))

/-- ASL (44_shift_rotate.md R428). -/
def execAsl (m : Mem) (s : State) : Result :=
  .next (s.rmw8 aslOp m (memLen m))

/-- ASLA (44_shift_rotate.md R429). -/
def execAsla (s : State) : Result :=
  .next (s.unA aslOp)

/-- ASLB (44_shift_rotate.md R430). -/
def execAslb (s : State) : Result :=
  .next (s.unB aslOp)

/-- ASLD (44_shift_rotate.md R431). -/
def execAsld (s : State) : Result :=
  .next (s.unD aslOp)

/-- ASLE (44_shift_rotate.md R432). -/
def execAsle (s : State) : Result :=
  .next (s.unE aslOp)

/-- ASLW (44_shift_rotate.md R433). -/
def execAslw (m : Mem) (s : State) : Result :=
  .next (s.rmw16 aslOp m (memLen m))

/-- ASR (44_shift_rotate.md R434). -/
def execAsr (m : Mem) (s : State) : Result :=
  .next (s.rmw8 asrOp m (memLen m))

/-- ASRA (44_shift_rotate.md R435). -/
def execAsra (s : State) : Result :=
  .next (s.unA asrOp)

/-- ASRB (44_shift_rotate.md R436). -/
def execAsrb (s : State) : Result :=
  .next (s.unB asrOp)

/-- ASRD (44_shift_rotate.md R437). -/
def execAsrd (s : State) : Result :=
  .next (s.unD asrOp)

/-- ASRE (44_shift_rotate.md R438). -/
def execAsre (s : State) : Result :=
  .next (s.unE asrOp)

/-- ASRW (44_shift_rotate.md R439). -/
def execAsrw (m : Mem) (s : State) : Result :=
  .next (s.rmw16 asrOp m (memLen m))

/-- ROL (44_shift_rotate.md R440). -/
def execRol (m : Mem) (s : State) : Result :=
  .next (s.rmw8 rolOp m (memLen m))

/-- ROLA (44_shift_rotate.md R441). -/
def execRola (s : State) : Result :=
  .next (s.unA rolOp)

/-- ROLB (44_shift_rotate.md R442). -/
def execRolb (s : State) : Result :=
  .next (s.unB rolOp)

/-- ROLD (44_shift_rotate.md R443). -/
def execRold (s : State) : Result :=
  .next (s.unD rolOp)

/-- ROLE (44_shift_rotate.md R444). -/
def execRole (s : State) : Result :=
  .next (s.unE rolOp)

/-- ROLW (44_shift_rotate.md R445). -/
def execRolw (m : Mem) (s : State) : Result :=
  .next (s.rmw16 rolOp m (memLen m))

/-- ROR (44_shift_rotate.md R446). -/
def execRor (m : Mem) (s : State) : Result :=
  .next (s.rmw8 rorOp m (memLen m))

/-- RORA (44_shift_rotate.md R447). -/
def execRora (s : State) : Result :=
  .next (s.unA rorOp)

/-- RORB (44_shift_rotate.md R448). -/
def execRorb (s : State) : Result :=
  .next (s.unB rorOp)

/-- RORD (44_shift_rotate.md R449). -/
def execRord (s : State) : Result :=
  .next (s.unD rorOp)

/-- RORE (44_shift_rotate.md R450). -/
def execRore (s : State) : Result :=
  .next (s.unE rorOp)

/-- RORW (44_shift_rotate.md R451). -/
def execRorw (m : Mem) (s : State) : Result :=
  .next (s.rmw16 rorOp m (memLen m))

end Sys2Proof.Machine
end

