-- ==== Sys2Proof/Machine/Dispatch.lean ====
section
/-! DEFINITION. The meaning of every instruction, one arm per constructor. -/

namespace Sys2Proof.Machine

def exec (i : Instr) (s : State) : Host.Outcome State Fault Refusal :=
  match i with
  | .ldaa m => Sys2Proof.Machine.execLdaa m s
  | .ldab m => Sys2Proof.Machine.execLdab m s
  | .ldd m => Sys2Proof.Machine.execLdd m s
  | .lde m => Sys2Proof.Machine.execLde m s
  | .lded hhll => Sys2Proof.Machine.execLded hhll s
  | .movb f => Sys2Proof.Machine.execMovb f s
  | .movw f => Sys2Proof.Machine.execMovw f s
  | .staa m => Sys2Proof.Machine.execStaa m s
  | .stab m => Sys2Proof.Machine.execStab m s
  | .std m => Sys2Proof.Machine.execStd m s
  | .ste m => Sys2Proof.Machine.execSte m s
  | .sted hhll => Sys2Proof.Machine.execSted hhll s
  | .adca m => Sys2Proof.Machine.execAdca m s
  | .adcb m => Sys2Proof.Machine.execAdcb m s
  | .adcd m => Sys2Proof.Machine.execAdcd m s
  | .adce m => Sys2Proof.Machine.execAdce m s
  | .adda m => Sys2Proof.Machine.execAdda m s
  | .addb m => Sys2Proof.Machine.execAddb m s
  | .addd m => Sys2Proof.Machine.execAddd m s
  | .adde m => Sys2Proof.Machine.execAdde m s
  | .sbca m => Sys2Proof.Machine.execSbca m s
  | .sbcb m => Sys2Proof.Machine.execSbcb m s
  | .sbcd m => Sys2Proof.Machine.execSbcd m s
  | .sbce m => Sys2Proof.Machine.execSbce m s
  | .suba m => Sys2Proof.Machine.execSuba m s
  | .subb m => Sys2Proof.Machine.execSubb m s
  | .subd m => Sys2Proof.Machine.execSubd m s
  | .sube m => Sys2Proof.Machine.execSube m s
  | .cmpa m => Sys2Proof.Machine.execCmpa m s
  | .cmpb m => Sys2Proof.Machine.execCmpb m s
  | .cpd m => Sys2Proof.Machine.execCpd m s
  | .cpe m => Sys2Proof.Machine.execCpe m s
  | .tst m => Sys2Proof.Machine.execTst m s
  | .tstw m => Sys2Proof.Machine.execTstw m s
  | .dec m => Sys2Proof.Machine.execDec m s
  | .decw m => Sys2Proof.Machine.execDecw m s
  | .inc m => Sys2Proof.Machine.execInc m s
  | .incw m => Sys2Proof.Machine.execIncw m s
  | .clr m => Sys2Proof.Machine.execClr m s
  | .clrw m => Sys2Proof.Machine.execClrw m s
  | .com m => Sys2Proof.Machine.execCom m s
  | .comw m => Sys2Proof.Machine.execComw m s
  | .neg m => Sys2Proof.Machine.execNeg m s
  | .negw m => Sys2Proof.Machine.execNegw m s
  | .anda m => Sys2Proof.Machine.execAnda m s
  | .andb m => Sys2Proof.Machine.execAndb m s
  | .andd m => Sys2Proof.Machine.execAndd m s
  | .ande m => Sys2Proof.Machine.execAnde m s
  | .eora m => Sys2Proof.Machine.execEora m s
  | .eorb m => Sys2Proof.Machine.execEorb m s
  | .eord m => Sys2Proof.Machine.execEord m s
  | .eore m => Sys2Proof.Machine.execEore m s
  | .oraa m => Sys2Proof.Machine.execOraa m s
  | .orab m => Sys2Proof.Machine.execOrab m s
  | .ord m => Sys2Proof.Machine.execOrd m s
  | .ore m => Sys2Proof.Machine.execOre m s
  | .bita m => Sys2Proof.Machine.execBita m s
  | .bitb m => Sys2Proof.Machine.execBitb m s
  | .bclr m mm => Sys2Proof.Machine.execBclr m mm s
  | .bclrw m mmmm => Sys2Proof.Machine.execBclrw m mmmm s
  | .bset m mm => Sys2Proof.Machine.execBset m mm s
  | .bsetw m mmmm => Sys2Proof.Machine.execBsetw m mmmm s
  | .lsr m => Sys2Proof.Machine.execLsr m s
  | .lsrw m => Sys2Proof.Machine.execLsrw m s
  | .asl m => Sys2Proof.Machine.execAsl m s
  | .aslw m => Sys2Proof.Machine.execAslw m s
  | .asr m => Sys2Proof.Machine.execAsr m s
  | .asrw m => Sys2Proof.Machine.execAsrw m s
  | .rol m => Sys2Proof.Machine.execRol m s
  | .rolw m => Sys2Proof.Machine.execRolw m s
  | .ror m => Sys2Proof.Machine.execRor m s
  | .rorw m => Sys2Proof.Machine.execRorw m s
  | .bra rr => Sys2Proof.Machine.execBra rr s
  | .brn rr => Sys2Proof.Machine.execBrn rr s
  | .bcc rr => Sys2Proof.Machine.execBcc rr s
  | .bcs rr => Sys2Proof.Machine.execBcs rr s
  | .beq rr => Sys2Proof.Machine.execBeq rr s
  | .bge rr => Sys2Proof.Machine.execBge rr s
  | .bgt rr => Sys2Proof.Machine.execBgt rr s
  | .bhi rr => Sys2Proof.Machine.execBhi rr s
  | .ble rr => Sys2Proof.Machine.execBle rr s
  | .bls rr => Sys2Proof.Machine.execBls rr s
  | .blt rr => Sys2Proof.Machine.execBlt rr s
  | .bmi rr => Sys2Proof.Machine.execBmi rr s
  | .bne rr => Sys2Proof.Machine.execBne rr s
  | .bpl rr => Sys2Proof.Machine.execBpl rr s
  | .bvc rr => Sys2Proof.Machine.execBvc rr s
  | .bvs rr => Sys2Proof.Machine.execBvs rr s
  | .lbra rrrr => Sys2Proof.Machine.execLbra rrrr s
  | .lbrn rrrr => Sys2Proof.Machine.execLbrn rrrr s
  | .lbcc rrrr => Sys2Proof.Machine.execLbcc rrrr s
  | .lbcs rrrr => Sys2Proof.Machine.execLbcs rrrr s
  | .lbeq rrrr => Sys2Proof.Machine.execLbeq rrrr s
  | .lbge rrrr => Sys2Proof.Machine.execLbge rrrr s
  | .lbgt rrrr => Sys2Proof.Machine.execLbgt rrrr s
  | .lbhi rrrr => Sys2Proof.Machine.execLbhi rrrr s
  | .lble rrrr => Sys2Proof.Machine.execLble rrrr s
  | .lbls rrrr => Sys2Proof.Machine.execLbls rrrr s
  | .lblt rrrr => Sys2Proof.Machine.execLblt rrrr s
  | .lbmi rrrr => Sys2Proof.Machine.execLbmi rrrr s
  | .lbne rrrr => Sys2Proof.Machine.execLbne rrrr s
  | .lbpl rrrr => Sys2Proof.Machine.execLbpl rrrr s
  | .lbvc rrrr => Sys2Proof.Machine.execLbvc rrrr s
  | .lbvs rrrr => Sys2Proof.Machine.execLbvs rrrr s
  | .lbev rrrr => Sys2Proof.Machine.execLbev rrrr s
  | .lbmv rrrr => Sys2Proof.Machine.execLbmv rrrr s
  | .brclr m mm r => Sys2Proof.Machine.execBrclr m mm r s
  | .brset m mm r => Sys2Proof.Machine.execBrset m mm r s
  | .jmp t => Sys2Proof.Machine.execJmp t s
  | .bsr rr => Sys2Proof.Machine.execBsr rr s
  | .jsr t => Sys2Proof.Machine.execJsr t s
  | .lbsr rrrr => Sys2Proof.Machine.execLbsr rrrr s
  | .aix v => Sys2Proof.Machine.execAix v s
  | .aiy v => Sys2Proof.Machine.execAiy v s
  | .aiz v => Sys2Proof.Machine.execAiz v s
  | .cpx m => Sys2Proof.Machine.execCpx m s
  | .ldx m => Sys2Proof.Machine.execLdx m s
  | .stx m => Sys2Proof.Machine.execStx m s
  | .cpy m => Sys2Proof.Machine.execCpy m s
  | .ldy m => Sys2Proof.Machine.execLdy m s
  | .sty m => Sys2Proof.Machine.execSty m s
  | .cpz m => Sys2Proof.Machine.execCpz m s
  | .ldz m => Sys2Proof.Machine.execLdz m s
  | .stz m => Sys2Proof.Machine.execStz m s
  | .ais v => Sys2Proof.Machine.execAis v s
  | .cps m => Sys2Proof.Machine.execCps m s
  | .lds m => Sys2Proof.Machine.execLds m s
  | .sts m => Sys2Proof.Machine.execSts m s
  | .pshm mask => Sys2Proof.Machine.execPshm mask s
  | .pulm mask => Sys2Proof.Machine.execPulm mask s
  | .andp jjkk => Sys2Proof.Machine.execAndp jjkk s
  | .orp jjkk => Sys2Proof.Machine.execOrp jjkk s
  | .mac xo yo => Sys2Proof.Machine.execMac xo yo s
  | .rmac xo yo => Sys2Proof.Machine.execRmac xo yo s
  | .tab => Sys2Proof.Machine.execTab s
  | .tba => Sys2Proof.Machine.execTba s
  | .tde => Sys2Proof.Machine.execTde s
  | .ted => Sys2Proof.Machine.execTed s
  | .xgab => Sys2Proof.Machine.execXgab s
  | .xgde => Sys2Proof.Machine.execXgde s
  | .aba => Sys2Proof.Machine.execAba s
  | .ade => Sys2Proof.Machine.execAde s
  | .sba => Sys2Proof.Machine.execSba s
  | .sde => Sys2Proof.Machine.execSde s
  | .daa => Sys2Proof.Machine.execDaa s
  | .sxt => Sys2Proof.Machine.execSxt s
  | .cba => Sys2Proof.Machine.execCba s
  | .tsta => Sys2Proof.Machine.execTsta s
  | .tstb => Sys2Proof.Machine.execTstb s
  | .tstd => Sys2Proof.Machine.execTstd s
  | .tste => Sys2Proof.Machine.execTste s
  | .deca => Sys2Proof.Machine.execDeca s
  | .decb => Sys2Proof.Machine.execDecb s
  | .inca => Sys2Proof.Machine.execInca s
  | .incb => Sys2Proof.Machine.execIncb s
  | .clra => Sys2Proof.Machine.execClra s
  | .clrb => Sys2Proof.Machine.execClrb s
  | .clrd => Sys2Proof.Machine.execClrd s
  | .clre => Sys2Proof.Machine.execClre s
  | .coma => Sys2Proof.Machine.execComa s
  | .comb => Sys2Proof.Machine.execComb s
  | .comd => Sys2Proof.Machine.execComd s
  | .come => Sys2Proof.Machine.execCome s
  | .nega => Sys2Proof.Machine.execNega s
  | .negb => Sys2Proof.Machine.execNegb s
  | .negd => Sys2Proof.Machine.execNegd s
  | .nege => Sys2Proof.Machine.execNege s
  | .ediv => Sys2Proof.Machine.execEdiv s
  | .edivs => Sys2Proof.Machine.execEdivs s
  | .emul => Sys2Proof.Machine.execEmul s
  | .emuls => Sys2Proof.Machine.execEmuls s
  | .fdiv => Sys2Proof.Machine.execFdiv s
  | .fmuls => Sys2Proof.Machine.execFmuls s
  | .idiv => Sys2Proof.Machine.execIdiv s
  | .mul => Sys2Proof.Machine.execMul s
  | .lsra => Sys2Proof.Machine.execLsra s
  | .lsrb => Sys2Proof.Machine.execLsrb s
  | .lsrd => Sys2Proof.Machine.execLsrd s
  | .lsre => Sys2Proof.Machine.execLsre s
  | .asla => Sys2Proof.Machine.execAsla s
  | .aslb => Sys2Proof.Machine.execAslb s
  | .asld => Sys2Proof.Machine.execAsld s
  | .asle => Sys2Proof.Machine.execAsle s
  | .asra => Sys2Proof.Machine.execAsra s
  | .asrb => Sys2Proof.Machine.execAsrb s
  | .asrd => Sys2Proof.Machine.execAsrd s
  | .asre => Sys2Proof.Machine.execAsre s
  | .rola => Sys2Proof.Machine.execRola s
  | .rolb => Sys2Proof.Machine.execRolb s
  | .rold => Sys2Proof.Machine.execRold s
  | .role => Sys2Proof.Machine.execRole s
  | .rora => Sys2Proof.Machine.execRora s
  | .rorb => Sys2Proof.Machine.execRorb s
  | .rord => Sys2Proof.Machine.execRord s
  | .rore => Sys2Proof.Machine.execRore s
  | .rts => Sys2Proof.Machine.execRts s
  | .rti => Sys2Proof.Machine.execRti s
  | .swi => Sys2Proof.Machine.execSwi s
  | .abx => Sys2Proof.Machine.execAbx s
  | .aby => Sys2Proof.Machine.execAby s
  | .abz => Sys2Proof.Machine.execAbz s
  | .adx => Sys2Proof.Machine.execAdx s
  | .ady => Sys2Proof.Machine.execAdy s
  | .adz => Sys2Proof.Machine.execAdz s
  | .aex => Sys2Proof.Machine.execAex s
  | .aey => Sys2Proof.Machine.execAey s
  | .aez => Sys2Proof.Machine.execAez s
  | .tsx => Sys2Proof.Machine.execTsx s
  | .tsy => Sys2Proof.Machine.execTsy s
  | .tsz => Sys2Proof.Machine.execTsz s
  | .txs => Sys2Proof.Machine.execTxs s
  | .txy => Sys2Proof.Machine.execTxy s
  | .txz => Sys2Proof.Machine.execTxz s
  | .tys => Sys2Proof.Machine.execTys s
  | .tyx => Sys2Proof.Machine.execTyx s
  | .tyz => Sys2Proof.Machine.execTyz s
  | .tzs => Sys2Proof.Machine.execTzs s
  | .tzx => Sys2Proof.Machine.execTzx s
  | .tzy => Sys2Proof.Machine.execTzy s
  | .xgdx => Sys2Proof.Machine.execXgdx s
  | .xgdy => Sys2Proof.Machine.execXgdy s
  | .xgdz => Sys2Proof.Machine.execXgdz s
  | .xgex => Sys2Proof.Machine.execXgex s
  | .xgey => Sys2Proof.Machine.execXgey s
  | .xgez => Sys2Proof.Machine.execXgez s
  | .tbek => Sys2Proof.Machine.execTbek s
  | .tbsk => Sys2Proof.Machine.execTbsk s
  | .tbxk => Sys2Proof.Machine.execTbxk s
  | .tbyk => Sys2Proof.Machine.execTbyk s
  | .tbzk => Sys2Proof.Machine.execTbzk s
  | .tekb => Sys2Proof.Machine.execTekb s
  | .tskb => Sys2Proof.Machine.execTskb s
  | .txkb => Sys2Proof.Machine.execTxkb s
  | .tykb => Sys2Proof.Machine.execTykb s
  | .tzkb => Sys2Proof.Machine.execTzkb s
  | .psha => Sys2Proof.Machine.execPsha s
  | .pshb => Sys2Proof.Machine.execPshb s
  | .pula => Sys2Proof.Machine.execPula s
  | .pulb => Sys2Proof.Machine.execPulb s
  | .tap => Sys2Proof.Machine.execTap s
  | .tdp => Sys2Proof.Machine.execTdp s
  | .tpa => Sys2Proof.Machine.execTpa s
  | .tpd => Sys2Proof.Machine.execTpd s
  | .lpstop => Sys2Proof.Machine.execLpstop s
  | .wai => Sys2Proof.Machine.execWai s
  | .bgnd => Sys2Proof.Machine.execBgnd s
  | .nop => Sys2Proof.Machine.execNop s
  | .ace => Sys2Proof.Machine.execAce s
  | .aced => Sys2Proof.Machine.execAced s
  | .aslm => Sys2Proof.Machine.execAslm s
  | .asrm => Sys2Proof.Machine.execAsrm s
  | .clrm => Sys2Proof.Machine.execClrm s
  | .ldhi => Sys2Proof.Machine.execLdhi s
  | .pshmac => Sys2Proof.Machine.execPshmac s
  | .pulmac => Sys2Proof.Machine.execPulmac s
  | .tmer => Sys2Proof.Machine.execTmer s
  | .tmet => Sys2Proof.Machine.execTmet s
  | .tdmsk => Sys2Proof.Machine.execTdmsk s
  | .tedm => Sys2Proof.Machine.execTedm s
  | .tem => Sys2Proof.Machine.execTem s
  | .tmxed => Sys2Proof.Machine.execTmxed s

end Sys2Proof.Machine
end

