-- ==== Sys2Proof/Machine/Boundary.lean ====
section
/-! DEFINITION. The instruction boundary (60_exceptions.md R726): inputs, interrupts, fetching and executing. -/

namespace Sys2Proof.Machine

/-! ### Inputs -/

/-- The request lines change. A transition of IRQ7 to asserted sets the edge latch (60_exceptions.md R723). -/
def State.setLines (s : State) (l : IrqLines) : State :=
  let t := { s with plat := { s.plat with irq := l } }
  if l.irq7 && !s.plat.irq.irq7 then t.setNmiLatch true else t

/-- BKPT is asserted at other addresses from here on (60_exceptions.md R722). -/
def State.setBkptRanges (s : State) (data prog : List (Nat × Nat)) : State :=
  { s with plat := { s.plat with dataBkpt := data, progBkpt := prog } }

/-- The inputs that are left. -/
def State.setInputs (s : State) (l : List Input) : State := { s with plat := { s.plat with inputs := l } }

/-- The first input taken off the list; a change of lines or of BKPT takes effect, a reset is reported (log
entry 34). -/
def State.takeInput (s : State) : Option Bool × State :=
  match s.plat.inputs with
  | [] => (none, s)
  | .lines l :: rest => (none, (s.setInputs rest).setLines l)
  | .bkpt l d p :: rest => (none, ((s.setInputs rest).setLines l).setBkptRanges d p)
  | .reset b :: rest => (some b, s.setInputs rest)

/-! ### Interrupts -/

/-- The level that is recognised against the mask `ip`: 7 when its edge latch is set, else the highest asserted level
above the mask (60_exceptions.md R750, log entry 46). -/
def State.pendingLevel (s : State) (ip : BitVec 3) : Option (BitVec 3) :=
  let q := s.plat.irq
  if q.irq7 && s.ctl.nmiLatch then some 7
  else if q.irq6 && decide (ip < 6) then some 6
  else if q.irq5 && decide (ip < 5) then some 5
  else if q.irq4 && decide (ip < 4) then some 4
  else if q.irq3 && decide (ip < 3) then some 3
  else if q.irq2 && decide (ip < 2) then some 2
  else if q.irq1 && decide (ip < 1) then some 1
  else none

/-- The vector number of a level: what the acknowledge cycle returns (60_exceptions.md R755 to R757). DESIGN CHOICE (log
entry 48): a BERR of the acknowledge cycle gives vector $18 also inside the double-bus-fault window, where R721 by itself
would make it a double bus fault; the model takes R757, which has the interrupt sequence consume that BERR. -/
def State.ackVector (s : State) (l : BitVec 3) : Byte :=
  match s.plat.iack[l.toNat - 1]? with
  | some (.vector n) => n
  | some .autovector => 0x10 + l.setWidth 8
  | some .busError => 0x18
  | none => 0x18

/-- The prefetch bus cycle for the next instruction that comes between the detection of an asynchronous exception and its
processing: the words at IA and IA + 2 are in the pipeline, so it reads the one at IA + 4 (60_exceptions.md R812,
70_reset_and_hazards.md R842, log entry 53). -/
def State.prefetch (s : State) : Word × State := s.progRead16 (s.ia + 4)

/-- An asynchronous exception is processed after that prefetch, whose word is discarded and whose BERR is latched, unless
inside the double-bus-fault window it ends the work in hand (60_exceptions.md R812, R721). -/
def State.afterPrefetch (s : State) (process : State → State) : State := s.prefetch.2.whileAlive process

/-- Interrupt exception processing, which also ends the stopped and waiting states (60_exceptions.md R752, R782, R783,
R812). -/
def State.takeInterrupt (s : State) (l : BitVec 3) : State :=
  (s.setRun .running).afterPrefetch fun t => t.takeAsynchronous (s.ackVector l) (some l)

/-- Bus error exception processing: the prefetch comes before it begins, so still outside the window (60_exceptions.md
R721, R726, R812). -/
def State.takeBusError (s : State) : State :=
  s.afterPrefetch fun t => (t.setBerrWindow true).takeAsynchronous 5 none

/-! ### Fetching and executing -/

/-- One more word of the fetch, unless a double bus fault has ended it. -/
def State.fetchMore (s : State) (a : Addr) : Word × State := if s.alive then s.progRead16 a else (0, s)

/-- The three words that every instruction fetches: at IA, IA + 2 and IA + 4 (70_reset_and_hazards.md R842,
log entry 12). -/
def State.fetch (s : State) : (Word × Word × Word) × State :=
  let a := s.ia
  let p0 := s.progRead16 a
  let p1 := p0.2.fetchMore (a + 2)
  let p2 := p1.2.fetchMore (a + 4)
  ((p0.1, p1.1, p2.1), p2.2)

/-- The handler's first instruction clears the BERR latch and closes the window after its fetch (60_exceptions.md
R726). -/
def State.closeWindow (s : State) : State :=
  if s.ctl.berrWindow then (s.setBerrLatch false).setBerrWindow false else s

/-- One of the `len` bytes at the instruction's address was stored inside a prefetch window (log entry 11). -/
def State.isStale (s : State) (len : Nat) : Bool :=
  (List.range len).any fun k => s.stale.contains (s.ia + BitVec.ofNat 20 k).toNat

/-- The instruction at the boundary has finished: RMAC has not while PK : PC stays at it (47_dsp.md R679 (b)). -/
def finished (i : Instr) (before after : Addr) : Bool :=
  match i with
  | .rmac _ _ => before != after
  | _ => true

/-- A tagged instruction that has executed sets the BKPT latch (60_exceptions.md R722). -/
def State.noteTag (s : State) (tagged : Bool) : State := if tagged then s.setBkptLatch true else s

/-- Runs the words that were fetched: the instruction they decode to, or the illegal instruction exception
(60_exceptions.md R770). -/
def State.runWords (s : State) (w0 w1 w2 : Word) : Result :=
  let tagged := inRanges s.plat.progBkpt s.ia.toNat
  match decode w0 w1 w2 with
  | .error _ =>
    if s.isStale 2 then .refused .storeIntoPrefetchWindow
    else .next ((s.takeSynchronous 7).noteTag tagged)
  | .ok i =>
    if s.isStale i.length then .refused .storeIntoPrefetchWindow
    else
      match exec i s with
      | .next t => .next (t.noteTag (tagged && finished i s.pkpc t.pkpc))
      | .fault f => .fault f
      | .refused r => .refused r

/-- Executes the instruction at the boundary: fetch, close the window, operation (60_exceptions.md R726). -/
def State.executeNext (s : State) : Result :=
  let f := s.fetch
  if f.2.alive then f.2.closeWindow.runWords f.1.1 f.1.2.1 f.1.2.2 else .next f.2

/-- The breakpoint acknowledge cycle: a notification to the platform, without a result (20_memory.md R107 (b),
60_exceptions.md R746, log entry 39). -/
def State.acknowledgeBreakpoint (s : State) : State :=
  { s with plat := { s.plat with bkptAcks := s.plat.bkptAcks + 1 } }

/-- A latched breakpoint: background mode, or the acknowledge cycle and the breakpoint exception (60_exceptions.md R726,
R745 to R747, R812). -/
def State.takeBreakpoint (s : State) : State :=
  let s1 := s.setBkptLatch false
  if s.ctl.bdmFlag then s1.enterBackground
  else s1.afterPrefetch fun t => t.acknowledgeBreakpoint.takeAsynchronous 4 none

/-- The instruction boundary of a running processor (60_exceptions.md R726). -/
def State.boundary (s : State) : Result :=
  if s.ctl.berrLatch && !s.ctl.berrWindow then .next s.takeBusError
  else if s.ctl.bkptLatch then .next s.takeBreakpoint
  else if s.ctl.inhibit then (s.setInhibit false).executeNext
  else
    match s.pendingLevel (fieldIP s.reg.ccr) with
    | some l => .next (s.takeInterrupt l)
    | none => s.executeNext

/-- A stopped or waiting processor idles until a request above `ip` is recognised (60_exceptions.md R782, R783, log
entry 36). -/
def State.idleUntil (s : State) (ip : BitVec 3) : State :=
  match s.pendingLevel ip with
  | some l => s.takeInterrupt l
  | none => s

/-- One of the levels `l` is asserted. -/
def IrqLines.meets (q l : IrqLines) : Bool :=
  q.irq1 && l.irq1 || q.irq2 && l.irq2 || q.irq3 && l.irq3 || q.irq4 && l.irq4 || q.irq5 && l.irq5 ||
    q.irq6 && l.irq6 || q.irq7 && l.irq7

/-- A request of `StopWake.levels` is there: the interrupt that IP lets in is taken, and without one the processor stays
stopped, for only an interrupt or a reset resumes execution (46_index_stack_ccr.md R650, 60_exceptions.md R720, log
entry 50). -/
def State.restart (s : State) : State := s.idleUntil (fieldIP s.reg.ccr)

/-- A stopped processor, by the platform's `STOP_WAKE` (60_exceptions.md R780, R782, log entry 50). -/
def State.stoppedStep (s : State) : State :=
  match s.plat.stopWake with
  | .aboveCopy => s.idleUntil s.ctl.ebiIP
  | .levels l => if s.plat.irq.meets l then s.restart else s

/-- A halted processor stays halted; without an input left it is stuck (60_exceptions.md R733, log entry 33). -/
def State.haltedStep (s : State) : Result :=
  match s.plat.inputs with
  | [] => .fault .halted
  | _ :: _ => .next s

/-- One step by run state (60_exceptions.md R720). -/
def State.stepRun (s : State) : Result :=
  match s.ctl.run with
  | .running => s.boundary
  | .stopped => .next s.stoppedStep
  | .waiting => .next (s.idleUntil (fieldIP s.reg.ccr))
  | .halted => s.haltedStep
  | .background => .next s.debugStep

/-- Bytes stored in the memory that program space reads, at consecutive addresses. -/
def State.placeBytes (s : State) (a : Addr) : List Byte → State
  | [] => s
  | v :: rest => (s.storeProg a.toNat v).placeBytes (a + 1) rest

end Sys2Proof.Machine
end

