-- ==== Sys2Proof/Machine/Step.lean ====
section
/-! DEFINITION. One step of the machine, and how a given instruction is placed where the step fetches. -/

namespace Sys2Proof.Machine

/-- One step: an input, if one has come, then a reset or the step of the run state. -/
def step (s : State) : Host.Outcome State Fault Refusal :=
  match s.takeInput with
  | (some b, t) => .next (t.applyReset b)
  | (none, t) => t.stepRun

/-- The instruction whose bits are w (the host's numbering), stored where the step fetches its next instruction:
program space at PK : PC minus 6. A program is loaded from outside the machine (log entry 41). -/
def State.withFetchWord (s : State) (nbits w : Nat) : State :=
  { s.placeBytes s.ia (bytesOfWords (tableWords nbits w)) with stale := [], begun := false }

end Sys2Proof.Machine
end

