-- ==== Sys2Proof/Machine/Pipeline.lean ====
section
/-! DEFINITION. The outputs that no program sees: the pipeline state signals on IPIPE1 and IPIPE0, the three stage pipeline
that external hardware follows with them, FREEZE and HALT (60_exceptions.md R733, R796, R810 to R812; log entry 40). -/

namespace Sys2Proof.Machine

/-! ### The signals and their pins (60_exceptions.md R810, Table 10-1) -/

/-- The state signals of phase 1. -/
inductive PhaseOne where
  | startFetch
  | fetch
  | start
  | null
  deriving DecidableEq, Repr

/-- The state signals of phase 2. -/
inductive PhaseTwo where
  | invalid
  | advance
  | exception
  | null
  deriving DecidableEq, Repr

/-- The levels of IPIPE1 and IPIPE0, in this order, that show a signal of phase 1. -/
def pinsOfOne : PhaseOne → BitVec 2
  | .startFetch => 0b00
  | .fetch => 0b01
  | .start => 0b10
  | .null => 0b11

/-- The levels of IPIPE1 and IPIPE0 that show a signal of phase 2. -/
def pinsOfTwo : PhaseTwo → BitVec 2
  | .invalid => 0b00
  | .advance => 0b01
  | .exception => 0b10
  | .null => 0b11

/-- The signal of phase 1 that the levels of IPIPE1 and IPIPE0 show. -/
def oneOfPins (p : BitVec 2) : PhaseOne :=
  if p = 0b00 then .startFetch else if p = 0b01 then .fetch else if p = 0b10 then .start else .null

/-- The signal of phase 2 that the levels of IPIPE1 and IPIPE0 show. -/
def twoOfPins (p : BitVec 2) : PhaseTwo :=
  if p = 0b00 then .invalid else if p = 0b01 then .advance else if p = 0b10 then .exception else .null

/-- The signals of one bus cycle, and the content of the data bus where a FETCH latches it. -/
structure PipeCycle where
  one : PhaseOne
  two : PhaseTwo
  bus : Option Word
  deriving DecidableEq, Repr

/-- The function code of a bus cycle with FETCH, which is an instruction fetch (60_exceptions.md R811, 20_memory.md R91).
Which bus cycle carries the other signals is timing. -/
def PipeCycle.functionCode (k : PipeCycle) : Option (BitVec 3) :=
  if k.one = .fetch ∨ k.one = .startFetch then some Space.program.functionCode else none

/-! ### What the signals mean (60_exceptions.md R810, R811) -/

/-- The pipeline as external hardware follows it: three stages, and two marks. -/
structure Pipeline where
  a : Word
  b : Word
  c : Word
  /-- START has been asserted for the word in stage B. -/
  started : Bool
  /-- The bus cycles belong to an exception processing sequence. -/
  exception : Bool
  deriving DecidableEq, Repr

/-- START: the instruction in stage B has begun to execute, and no exception processing sequence goes on. -/
def Pipeline.onStart (p : Pipeline) : Pipeline := { p with started := true, exception := false }

/-- ADVANCE: a started word goes from stage B to stage C, and stage A is copied into stage B in any case. -/
def Pipeline.onAdvance (p : Pipeline) : Pipeline :=
  { p with c := if p.started then p.b else p.c, b := p.a, started := false }

/-- FETCH: the content of the data bus is latched into stage A. -/
def Pipeline.onFetch (p : Pipeline) (bus : Option Word) : Pipeline := { p with a := bus.getD p.a }

/-- EXCEPTION: the bus cycles until the next START belong to an exception processing sequence. DESIGN CHOICE (log
entry 52): the mark of a started word in stage B stays, so the ADVANCE that refills the pipeline for the handler copies a
suspended RMAC into stage C as a complete instruction. R811 does not say what becomes of such a word, and Figure 10-3 is
lost. -/
def Pipeline.onException (p : Pipeline) : Pipeline := { p with exception := true }

/-- One bus cycle followed: START first, then ADVANCE, then FETCH; INVALID has the signals of phase 1 ignored
(60_exceptions.md R811). -/
def Pipeline.observe (p : Pipeline) (k : PipeCycle) : Pipeline :=
  let one := if k.two = .invalid then PhaseOne.null else k.one
  let p1 := if one = .start ∨ one = .startFetch then p.onStart else p
  let p2 := if k.two = .advance then p1.onAdvance else p1
  let p3 := if one = .fetch ∨ one = .startFetch then p2.onFetch k.bus else p2
  if k.two = .exception then p3.onException else p3

/-- Bus cycles followed one after another. -/
def Pipeline.observeAll (p : Pipeline) (ks : List PipeCycle) : Pipeline := ks.foldl Pipeline.observe p

/-! ### What a step drives (DEDUCED where R810 to R812 leave the cycle open, log entry 40) -/

/-- A word latched into stage A while the pipeline moves on. -/
def fillCycle (w : Word) : PipeCycle := { one := .fetch, two := .advance, bus := some w }

/-- An instruction begins and moves to stage C, and the next word is latched. -/
def startFetchCycle (w : Word) : PipeCycle := { one := .startFetch, two := .advance, bus := some w }

/-- An instruction that is not followed by the next word in line begins and moves to stage C: no prefetch is made before
its precondition is evaluated (70_reset_and_hazards.md R852). -/
def startCycle : PipeCycle := { one := .start, two := .advance, bus := none }

/-- START of an instruction that stays in stage B: the first iteration of an RMAC that another follows. -/
def beginCycle : PipeCycle := { one := .start, two := .null, bus := none }

/-- EXCEPTION with the first stacking operation (60_exceptions.md R812). -/
def exceptionCycle : PipeCycle := { one := .null, two := .exception, bus := none }

/-- EXCEPTION of an interrupt, during the prefetch bus cycle of the word `w` (60_exceptions.md R812). -/
def interruptCycle (w : Word) : PipeCycle := { one := .fetch, two := .exception, bus := some w }

/-- The pipeline is filled with the first two words at the instruction address; the third is latched when the
instruction starts. Not in background mode, where the signals are not usable, and not when halted (60_exceptions.md
R811, R733). -/
def State.refillCycles (t : State) : List PipeCycle :=
  if t.alive then [fillCycle t.fetch.1.1, fillCycle t.fetch.1.2.1] else []

/-- An instruction of `len` bytes that runs on in sequence to `t`: one word is latched for each of its own, `w` first
(70_reset_and_hazards.md R851), with its START unless that has been asserted before. -/
def sequentialCycles (begun : Bool) (len : Nat) (w : Word) (t : State) : List PipeCycle :=
  let first := if begun then fillCycle w else startFetchCycle w
  if len ≤ 2 then [first]
  else if len ≤ 4 then [first, fillCycle t.fetch.1.2.1]
  else [first, fillCycle t.fetch.1.1, fillCycle t.fetch.1.2.1]

/-- A word latched into stage A by a prefetch that exception processing follows. -/
def prefetchCycle (w : Word) : PipeCycle := { one := .fetch, two := .null, bus := some w }

/-- Exception processing other than for an interrupt: the prefetch of the word `w` under way ends, EXCEPTION, the handler's
words (60_exceptions.md R812). -/
def State.exceptionCycles (t : State) (w : Word) : List PipeCycle :=
  prefetchCycle w :: exceptionCycle :: t.refillCycles

/-- The same for an asynchronous exception, unless its prefetch is a double bus fault. -/
def State.breakCycles (s t : State) : List PipeCycle :=
  if s.prefetch.2.alive then t.exceptionCycles s.prefetch.1 else [prefetchCycle s.prefetch.1]

/-- The instruction flushes the pipeline: the change-of-flow instructions of 70_reset_and_hazards.md R852 when they take
their way, SWI, and a division by zero, which both come without EXCEPTION (60_exceptions.md R811). -/
def changesFlow (i : Instr) (s : State) : Bool :=
  let c := s.reg.ccr
  match i with
  | .bra _ | .lbra _ | .jmp _ | .jsr _ | .bsr _ | .lbsr _ | .rts | .rti | .swi => true
  | .bcc _ | .lbcc _ => condCC c
  | .bcs _ | .lbcs _ => flagC c
  | .beq _ | .lbeq _ => flagZ c
  | .bge _ | .lbge _ => condGE c
  | .bgt _ | .lbgt _ => condGT c
  | .bhi _ | .lbhi _ => condHI c
  | .ble _ | .lble _ => !condGT c
  | .bls _ | .lbls _ => !condHI c
  | .blt _ | .lblt _ => !condGE c
  | .bmi _ | .lbmi _ => flagN c
  | .bne _ | .lbne _ => condNE c
  | .bpl _ | .lbpl _ => condPL c
  | .bvc _ | .lbvc _ => condVC c
  | .bvs _ | .lbvs _ => flagV c
  | .lbev _ => flagEV c
  | .lbmv _ => flagMV c
  | .brclr m mm _ => (s.read8 (s.ea m)).1 &&& mm == 0
  | .brset m mm _ => ~~~(s.read8 (s.ea m)).1 &&& mm == 0
  | .ediv | .edivs => s.reg.ix == 0
  | _ => false

/-- What an instruction drives that runs from s, where `w` is the word two after its first, to t. An RMAC begins with its
first iteration and leaves stage B with its last: START comes before an EXCEPTION that suspends it (60_exceptions.md R785,
R811). -/
def State.instructionCycles (s t : State) (i : Instr) (w : Word) : List PipeCycle :=
  if changesFlow i s then startCycle :: t.refillCycles
  else if i = .bgnd then (if s.ctl.bdmFlag then [startCycle] else t.exceptionCycles w)
  else if finished i s.pkpc t.pkpc then sequentialCycles s.begun i.length w t
  else if s.begun then []
  else [beginCycle]

/-- What the instruction at the boundary drives (60_exceptions.md R726). -/
def State.executeCycles (s t : State) : List PipeCycle :=
  let f := s.fetch
  if f.2.alive then
    match decode f.1.1 f.1.2.1 f.1.2.2 with
    | .error _ => t.exceptionCycles f.1.2.2
    | .ok i => f.2.closeWindow.instructionCycles t i f.1.2.2
  else []

/-- What a running processor drives, by the order of the boundary (60_exceptions.md R726). -/
def State.boundaryCycles (s t : State) : List PipeCycle :=
  if s.ctl.berrLatch && !s.ctl.berrWindow then s.breakCycles t
  else if s.ctl.bkptLatch then if s.ctl.bdmFlag then [] else s.breakCycles t
  else if s.ctl.inhibit then (s.setInhibit false).executeCycles t
  else
    match s.pendingLevel (fieldIP s.reg.ccr) with
    | some _ => interruptCycle s.prefetch.1 :: t.refillCycles
    | none => s.executeCycles t

/-- A stopped or waiting processor drives nothing until a request above `ip` wakes it, and then what an interrupt drives
(60_exceptions.md R780, R783, R812). -/
def State.wakeCycles (s t : State) (ip : BitVec 3) : List PipeCycle :=
  if (s.pendingLevel ip).isSome then interruptCycle s.prefetch.1 :: t.refillCycles else []

/-- What a stopped processor drives, by `STOP_WAKE`. -/
def State.stoppedCycles (s t : State) : List PipeCycle :=
  match s.plat.stopWake with
  | .aboveCopy => s.wakeCycles t s.ctl.ebiIP
  | .levels l => if s.plat.irq.meets l then s.wakeCycles t (fieldIP s.reg.ccr) else []

/-- What a step from s to t drives by run state. GO refills the pipeline (60_exceptions.md R798). -/
def State.runCycles (s t : State) : List PipeCycle :=
  match s.ctl.run with
  | .running => s.boundaryCycles t
  | .stopped => s.stoppedCycles t
  | .waiting => s.wakeCycles t (fieldIP s.reg.ccr)
  | .halted => []
  | .background => t.refillCycles

/-- The pipeline state signals that the step from s drives, in order, but for the bus cycles whose signals are NULL in
both phases: how many of those stand between the others is timing (00_scope.md R6 (b)). -/
def State.pipeCycles (s : State) : List PipeCycle :=
  match step s with
  | .next t =>
    match s.takeInput with
    | (some _, _) => exceptionCycle :: t.refillCycles
    | (none, s1) => s1.runCycles t
  | .fault _ => []
  | .refused _ => []

/-! ### FREEZE and HALT -/

/-- FREEZE is asserted in background mode (60_exceptions.md R796, R798). -/
def State.freezeAsserted (s : State) : Bool := s.ctl.run == .background

/-- The IMB HALT signal is asserted after a double bus fault (60_exceptions.md R733). -/
def State.haltAsserted (s : State) : Bool := s.ctl.run == .halted

end Sys2Proof.Machine
end

