-- ==== Sys2Proof/Safety.lean ====
section
/-! DEFINITION. The terms that claims use: what an instruction completes with, what it leaves alone, what a bus access
can rely on, and the invariants of the machine. -/

namespace Sys2Proof.Machine

/-! ### Memory and bus -/

/-- The byte of data space at an address, whatever answers there. -/
def State.dataByte (s : State) (a : Addr) : Byte := Memory.read s.mem a.toNat

/-- The word of data space at an address, big-endian (20_memory.md R96). -/
def State.dataWord (s : State) (a : Addr) : Word := word (s.dataByte a) (s.dataByte (a + 1))

/-- The byte that program space reads at an address (20_memory.md R95). -/
def State.progByte (s : State) (a : Addr) : Byte := Memory.read s.progMem a.toNat

/-- BKPT is asserted at an operand cycle of the address (60_exceptions.md R722). -/
def State.breaks (s : State) (a : Addr) : Bool := inRanges s.plat.dataBkpt a.toNat

/-- RAM answers in data space at the address: a store there is kept. -/
def State.writable (s : State) (a : Addr) : Bool := kindAt s.plat.dataMap a.toNat == .ram

/-- Memory: a read gives the byte there. -/
def RegionKind.holds : RegionKind → Bool
  | .ram => true
  | .rom => true
  | .romBusError => true
  | .device => false
  | .busError => false

/-- RAM or ROM answers in data space at the address: a read there gives the byte of memory. -/
def State.readable (s : State) (a : Addr) : Bool := (kindAt s.plat.dataMap a.toNat).holds

/-- RAM or ROM answers in program space at the address. -/
def State.fetchable (s : State) (a : Addr) : Bool := (kindAt s.plat.progMap a.toNat).holds

/-- A fetch of the word at the address ends in BERR (60_exceptions.md R732). -/
def State.fetchFails (s : State) (a : Addr) : Bool := kindAt s.plat.progMap a.toNat == .busError

/-- RAM or ROM answers at each of the `n` bytes from `a` on. -/
def State.readableFrom (s : State) (a : Addr) (n : Nat) : Bool :=
  (List.range n).all fun k => s.readable (a + BitVec.ofNat 20 k)

/-- The same in program space. -/
def State.fetchableFrom (s : State) (a : Addr) (n : Nat) : Bool :=
  (List.range n).all fun k => s.fetchable (a + BitVec.ofNat 20 k)

/-- The byte that a read cycle at the address returns. -/
def State.byteAt (s : State) (a : Addr) : Byte := (s.read8 a).1

/-- The word that reading the address returns. -/
def State.wordAt (s : State) (a : Addr) : Word := (s.read16 a).1

/-- `M8`, the byte operand (40_data_movement.md R200). -/
def State.m8 (s : State) (m : Src8) : Byte := (s.src8 m).1

/-- `M16`, the word operand (40_data_movement.md R200). -/
def State.m16 (s : State) (m : Src16) : Word := (s.src16 m).1

/-- The word of program space at an address (20_memory.md R95). -/
def State.progWord (s : State) (a : Addr) : Word := word (s.progByte a) (s.progByte (a + 1))

/-- The word that a fetch latches where memory answers or the cycle ends in BERR (60_exceptions.md R732). -/
def State.fetchedWord (s : State) (a : Addr) : Word := if s.fetchFails a then 0xFFFF else s.progWord a

/-- Memory or a bus error, not a device, answers at each of the three words that an instruction fetches
(70_reset_and_hazards.md R842). -/
def State.fetchKnown (s : State) : Bool :=
  (s.fetchable s.ia || s.fetchFails s.ia) && (s.fetchable (s.ia + 2) || s.fetchFails (s.ia + 2)) &&
    (s.fetchable (s.ia + 4) || s.fetchFails (s.ia + 4))

/-- One of the three fetches of an instruction ends in BERR. -/
def State.fetchBroken (s : State) : Bool := s.fetchFails s.ia || s.fetchFails (s.ia + 2) || s.fetchFails (s.ia + 4)

/-- Exactly the two bytes at `a` of program space are written with the bytes of `v`, if `kept`; every other byte of
program space reads as before, and where program space is a memory of its own, data space is as before, else the separate
memory (20_memory.md R92, R128). -/
def StoresProgWord (s t : State) (kept : Bool) (a : Addr) (v : Word) : Prop :=
  (∀ b, t.progByte b =
    if b = a ∧ kept = true then hi v else if b = a + 1 ∧ kept = true then lo v else s.progByte b) ∧
  (if s.plat.splitSpaces then t.mem = s.mem else t.prog = s.prog)

/-- The double-bus-fault window is closed, as it is whenever an instruction's operation begins (60_exceptions.md
R726). -/
def State.executing (s : State) : Bool := !s.ctl.berrWindow

/-- No input has come, the machine runs, and no BERR or BKPT is pending. -/
def State.quiet (s : State) : Bool :=
  s.plat.inputs.isEmpty && s.ctl.run == .running && !s.ctl.bkptLatch

/-! ### Registers as a claim names them -/

/-- D replaced. -/
def Regs.withD (r : Regs) (v : Word) : Regs := { r with a := hi v, b := lo v }
/-- E and D replaced. -/
def Regs.withED (r : Regs) (e d : Word) : Regs := { r with e := e, a := hi d, b := lo d }
/-- XK : IX replaced. -/
def Regs.withX (r : Regs) (v : Addr) : Regs := { r with xk := bank v, ix := offset v }
/-- YK : IY replaced. -/
def Regs.withY (r : Regs) (v : Addr) : Regs := { r with yk := bank v, iy := offset v }
/-- ZK : IZ replaced. -/
def Regs.withZ (r : Regs) (v : Addr) : Regs := { r with zk := bank v, iz := offset v }
/-- SK : SP replaced. -/
def Regs.withS (r : Regs) (v : Addr) : Regs := { r with sk := bank v, sp := offset v }

/-! ### Frames -/

/-- Every register of the programmer's model but PC and CCR is as `r` says. -/
def RegsBecome (r : Regs) (t : State) : Prop := t.reg = { r with pc := t.reg.pc, ccr := t.reg.ccr }

/-- Every CCR bit from SM (bit 4) up is unchanged, but for the bits listed. PK is part of the program counter. -/
def CcrKept (bits : List Nat) (s t : State) : Prop :=
  ∀ k, 4 ≤ k → k < 16 → k ∉ bits → t.reg.ccr.getLsbD k = s.reg.ccr.getLsbD k

/-- Latches and run state are unchanged, but that a bus cycle may have set the BERR or the BKPT latch. -/
def ControlKept (s t : State) : Prop :=
  t.ctl = { s.ctl with berrLatch := t.ctl.berrLatch, bkptLatch := t.ctl.bkptLatch }

/-- Every byte of data space reads as before. -/
def DataKept (s t : State) : Prop := ∀ a, t.dataByte a = s.dataByte a

/-- Exactly the byte at `a` is written with `v`, if RAM answers there; every other byte reads as before. -/
def StoresByte (s t : State) (a : Addr) (v : Byte) : Prop :=
  ∀ b, t.dataByte b = if b = a ∧ s.writable a then v else s.dataByte b

/-- Exactly the bytes at `a` and `a + 1` are written with the bytes of `v`, each if RAM answers there. -/
def StoresWord (s t : State) (a : Addr) (v : Word) : Prop :=
  ∀ b, t.dataByte b =
    if b = a ∧ s.writable a then hi v
    else if b = a + 1 ∧ s.writable (a + 1) then lo v
    else s.dataByte b

/-- Exactly the listed bytes are written, each if RAM answers there; every other byte reads as before. The addresses of
a list are distinct. -/
def StoresCells (s t : State) (cells : List (Addr × Byte)) : Prop :=
  ∀ b, t.dataByte b =
    match cells.find? (fun e => e.1 == b) with
    | some e => if s.writable b then e.2 else s.dataByte b
    | none => s.dataByte b

/-- The bytes of words pushed one after another from SK : SP = `a` on (10_state.md R38). -/
def stackCells : Addr → List Word → List (Addr × Byte)
  | _, [] => []
  | a, w :: ws => (a, hi w) :: (a + 1, lo w) :: stackCells (a - 2) ws

/-- IRQ7's edge latch after a write of IP: a change of IP from 7 to a lower number sets it while IRQ7 is asserted
(60_exceptions.md R723 (b)). -/
def nmiAfter (s t : State) : Bool :=
  s.ctl.nmiLatch || decide (fieldIP s.reg.ccr = 7) && decide (fieldIP t.reg.ccr ≠ 7) && s.plat.irq.irq7

/-- Platform and separate program space are unchanged. -/
def OutsideKept (s t : State) : Prop := t.plat = s.plat ∧ t.prog = s.prog

/-- PK : PC has moved past the instruction. -/
def Advanced (i : Instr) (s t : State) : Prop := t.pkpc = s.pkpc + BitVec.ofNat 20 i.length

/-! ### What an instruction completes with -/

/-- The instruction answers a next state, and `P` holds of it. -/
def Completes (i : Instr) (s : State) (P : State → Prop) : Prop := ∃ t, exec i s = .next t ∧ P t

/-- A well-formed instruction without a bus access completes in every state: registers as `r` says, PK : PC past it, the
CCR bits not listed unchanged, `flags` of the new CCR, everything else unchanged. -/
def Computes (i : Instr) (s : State) (r : Regs) (bits : List Nat) (flags : Word → Prop) : Prop :=
  i.wellFormed = true → Completes i s fun t =>
    RegsBecome r t ∧ Advanced i s t ∧ CcrKept bits s t ∧ flags t.reg.ccr ∧ t.mac = s.mac ∧ t.ctl = s.ctl ∧
      DataKept s t ∧ OutsideKept s t

/-- A well-formed instruction that stores nothing but may read memory completes in every executing state: as
`Computes`, but that its bus cycles may set the BERR and BKPT latches. -/
def ReadsInto (i : Instr) (s : State) (r : Regs) (bits : List Nat) (flags : Word → Prop) : Prop :=
  i.wellFormed = true → s.executing = true → Completes i s fun t =>
    RegsBecome r t ∧ Advanced i s t ∧ CcrKept bits s t ∧ flags t.reg.ccr ∧ t.mac = s.mac ∧ ControlKept s t ∧
      DataKept s t ∧ OutsideKept s t

/-- A well-formed instruction that stores the byte `v` at `a` completes in every executing state. -/
def WritesByte (i : Instr) (s : State) (r : Regs) (bits : List Nat) (flags : Word → Prop) (a : Addr) (v : Byte) :
    Prop :=
  i.wellFormed = true → s.executing = true → Completes i s fun t =>
    RegsBecome r t ∧ Advanced i s t ∧ CcrKept bits s t ∧ flags t.reg.ccr ∧ t.mac = s.mac ∧ ControlKept s t ∧
      StoresByte s t a v ∧ OutsideKept s t

/-- A well-formed instruction that stores the word `v` at `a` completes in every executing state. -/
def WritesWord (i : Instr) (s : State) (r : Regs) (bits : List Nat) (flags : Word → Prop) (a : Addr) (v : Word) :
    Prop :=
  i.wellFormed = true → s.executing = true → Completes i s fun t =>
    RegsBecome r t ∧ Advanced i s t ∧ CcrKept bits s t ∧ flags t.reg.ccr ∧ t.mac = s.mac ∧ ControlKept s t ∧
      StoresWord s t a v ∧ OutsideKept s t

/-- An inherent instruction of the MAC unit without a bus access completes in every state: registers and MAC unit as
said. -/
def ComputesMac (i : Instr) (s : State) (r : Regs) (m : Mac) (bits : List Nat) (flags : Word → Prop) : Prop :=
  Completes i s fun t =>
    RegsBecome r t ∧ t.mac = m ∧ Advanced i s t ∧ CcrKept bits s t ∧ flags t.reg.ccr ∧ t.ctl = s.ctl ∧
      DataKept s t ∧ OutsideKept s t

/-- A branch completes in every state: the next instruction is at `target` if the condition holds, else after the
branch; nothing else changes. -/
def Branches (i : Instr) (s : State) (cond : Bool) (target : Addr) : Prop :=
  Completes i s fun t =>
    t.ia = (if cond then target else s.ia + BitVec.ofNat 20 i.length) ∧ RegsBecome s.reg t ∧ CcrKept [] s t ∧
      t.mac = s.mac ∧ t.ctl = s.ctl ∧ DataKept s t ∧ OutsideKept s t

/-- No claim on the flags. -/
def anyFlags : Word → Prop := fun _ => True

/-- N and Z of a result. -/
def NZOf {w : Nat} (r : BitVec w) (c : Word) : Prop := flagN c = r.getLsbD (w - 1) ∧ flagZ c = decide (r = 0#w)

/-- N and Z of a result, V clear: `NZ0` (41_arithmetic.md R262). -/
def NZ0Of {w : Nat} (r : BitVec w) (c : Word) : Prop := NZOf r c ∧ flagV c = false

/-- The manual's Boolean equations for N, Z, V and C after an addition (41_arithmetic.md R260): x, m the operands, r the
result; primes are written `!`. -/
def AddEquations {w : Nat} (x m r : BitVec w) (c : Word) : Prop :=
  let X := x.getLsbD (w - 1)
  let M := m.getLsbD (w - 1)
  let R := r.getLsbD (w - 1)
  NZOf r c ∧ flagV c = (X && M && !R || !X && !M && R) ∧ flagC c = (X && M || M && !R || !R && X)

/-- The same with H, for bytes (41_arithmetic.md R260). -/
def AddEquationsH (x m r : Byte) (c : Word) : Prop :=
  AddEquations x m r c ∧
    flagH c = (x.getLsbD 3 && m.getLsbD 3 || m.getLsbD 3 && !r.getLsbD 3 || !r.getLsbD 3 && x.getLsbD 3)

/-- The manual's Boolean equations for N, Z, V and C after a subtraction (41_arithmetic.md R261). -/
def SubEquations {w : Nat} (x m r : BitVec w) (c : Word) : Prop :=
  let X := x.getLsbD (w - 1)
  let M := m.getLsbD (w - 1)
  let R := r.getLsbD (w - 1)
  NZOf r c ∧ flagV c = (X && !M && !R || !X && M && R) ∧ flagC c = (!X && M || M && R || R && !X)

/-- N, Z and C of a shift, and V = N XOR C (44_shift_rotate.md R420). -/
def ShiftFlags {w : Nat} (r : BitVec w) (cout : Bool) (c : Word) : Prop :=
  NZOf r c ∧ flagC c = cout ∧ flagV c = xor (flagN c) (flagC c)

/-- N and Z of the operand, V and C clear: TST (41_arithmetic.md R263). -/
def TstFlags {w : Nat} (x : BitVec w) (c : Word) : Prop := NZ0Of x c ∧ flagC c = false

/-- N and Z of the result; V when the operand was the greatest positive number: INC (41_arithmetic.md R263). -/
def IncFlags {w : Nat} (x : BitVec w) (c : Word) : Prop :=
  NZOf (x + 1) c ∧ flagV c = decide (x.toNat + 1 = 2 ^ (w - 1))

/-- N and Z of the result; V when the operand was the most negative number: DEC (41_arithmetic.md R263). -/
def DecFlags {w : Nat} (x : BitVec w) (c : Word) : Prop :=
  NZOf (x - 1) c ∧ flagV c = decide (x.toNat = 2 ^ (w - 1))

/-- N and Z of the result, V clear, C set: COM (41_arithmetic.md R263). -/
def ComFlags {w : Nat} (x : BitVec w) (c : Word) : Prop := NZ0Of (~~~x) c ∧ flagC c = true

/-- N and Z of the result; V when it is the most negative number, C when it is not zero: NEG (41_arithmetic.md R263). -/
def NegFlags {w : Nat} (x : BitVec w) (c : Word) : Prop :=
  NZOf (-x) c ∧ flagV c = decide ((-x).toNat = 2 ^ (w - 1)) ∧ flagC c = decide (-x ≠ 0#w)

/-- Z set, N, V and C clear: CLR (41_arithmetic.md R263). -/
def ClrFlags (c : Word) : Prop := flagN c = false ∧ flagZ c = true ∧ flagV c = false ∧ flagC c = false

/-! ### What a shift gives (44_shift_rotate.md R420) -/

/-- Half of the unsigned number: LSR. -/
def halfUnsigned {w : Nat} (x : BitVec w) : BitVec w := BitVec.ofNat w (x.toNat / 2)
/-- Half of the signed number, rounded down: ASR. -/
def halfSigned {w : Nat} (x : BitVec w) : BitVec w := BitVec.ofInt w (x.toInt / 2)
/-- Twice the number: ASL. -/
def twice {w : Nat} (x : BitVec w) : BitVec w := BitVec.ofNat w (2 * x.toNat)
/-- Twice the number plus the carry: ROL. -/
def twicePlus {w : Nat} (c : Bool) (x : BitVec w) : BitVec w := BitVec.ofNat w (2 * x.toNat + c.toNat)
/-- Half of the number with the carry above it: ROR. -/
def halfBelow {w : Nat} (c : Bool) (x : BitVec w) : BitVec w :=
  BitVec.ofNat w ((x.toNat + 2 ^ w * c.toNat) / 2)

/-! ### The exception frame -/

/-- Four bytes of stack are written, exactly those at SK : SP - 2 to SK : SP + 1 before: the PC word of `r`, and below
it the CCR word with the PK of `r` (60_exceptions.md R741). -/
def FrameStacked (s t : State) (r : Addr) : Prop :=
  let c := withPK (bank r) s.reg.ccr
  t.sksp = s.sksp - 4 ∧
  ∀ b, t.dataByte b =
    if b = s.sksp then hi (offset r) else if b = s.sksp + 1 then lo (offset r)
    else if b = s.sksp - 2 then hi c else if b = s.sksp - 1 then lo c
    else s.dataByte b

/-- RAM answers where a frame of four bytes will be stacked. -/
def State.frameWritable (s : State) : Bool :=
  s.writable s.sksp && s.writable (s.sksp + 1) && s.writable (s.sksp - 2) && s.writable (s.sksp - 1)

/-- RAM or ROM answers at the word that holds vector n. -/
def State.vectorReadable (s : State) (n : Byte) : Bool :=
  s.readable (BitVec.ofNat 20 (2 * n.toNat)) && s.readable (BitVec.ofNat 20 (2 * n.toNat + 1))

/-- The address that vector n holds in t, made even (10_state.md R43, log entry 10): bank 0 (60_exceptions.md R737). -/
def State.vectorTarget (t : State) (n : Byte) : Addr :=
  evenAddr (zext20 (t.dataWord (BitVec.ofNat 20 (2 * n.toNat))))

/-- t is s after an exception whose stacked PK : PC is r, with vector n (60_exceptions.md R740, R743): the frame, the
handler in bank 0, the inhibit; no register but SK : SP, PC and PK changes; the CCR bits listed may change. -/
def ExceptionTaken (s t : State) (r : Addr) (n : Byte) (bits : List Nat) : Prop :=
  FrameStacked s t r ∧ t.ia = t.vectorTarget n ∧ t.ctl.inhibit = true ∧
    RegsBecome { s.reg with sk := t.reg.sk, sp := t.reg.sp } t ∧ CcrKept bits s t ∧ t.mac = s.mac ∧ OutsideKept s t

/-- BKPT is asserted at an operand cycle of taking exception n: at a byte of the frame or of the vector word
(60_exceptions.md R722). -/
def State.exceptionBreaks (s : State) (n : Byte) : Bool :=
  s.breaks s.sksp || s.breaks (s.sksp + 1) || s.breaks (s.sksp - 2) || s.breaks (s.sksp - 1) ||
    s.breaks (BitVec.ofNat 20 (2 * n.toNat)) || s.breaks (BitVec.ofNat 20 (2 * n.toNat + 1))

/-- The latches and the run state after exception n is taken at s in RAM: the inhibit is set, the BKPT latch if BKPT is
asserted at one of its cycles; `c` says the rest. -/
def ControlHandler (s : State) (n : Byte) (c : Control) (t : State) : Prop :=
  t.ctl = { c with inhibit := true, bkptLatch := c.bkptLatch || s.exceptionBreaks n }

/-- A stopped, waiting or running machine is at `s` with everything in RAM that exception `n` needs. -/
def State.exceptionReady (s : State) (n : Byte) : Bool := s.alive && s.frameWritable && s.vectorReadable n

/-- t is s after a double bus fault; `c` says the latches (60_exceptions.md R733). That every register stays, but PK : PC
where background mode is entered, is the model's treatment (93_implementation_defined.md U16, log entry 38). -/
def DoubleBusFaulted (s t : State) (c : Control) : Prop :=
  RegsBecome s.reg t ∧ CcrKept [] s t ∧ (s.ctl.bdmFlag = false → t.pkpc = s.pkpc) ∧ t.mac = s.mac ∧
    t.ctl = { c with run := if s.ctl.bdmFlag then .background else .halted } ∧ DataKept s t ∧ OutsideKept s t

/-! ### The MAC unit -/

/-- AM takes the exact sum modulo 2^36; EV is set exactly when it is outside [-2^31, 2^31), MV when the exact sum was
outside [-2^35, 2^35) or was set before; SL takes bit 35 of the result when MV becomes set (47_dsp.md R661, R662). -/
def Accumulated (s t : State) (exact : Int) : Prop :=
  let overflow := decide (exact < -2 ^ 35 ∨ 2 ^ 35 ≤ exact)
  t.mac.am = BitVec.ofInt 36 exact ∧
  flagEV t.reg.ccr = decide (t.mac.am.toInt < -2 ^ 31 ∨ 2 ^ 31 ≤ t.mac.am.toInt) ∧
  flagMV t.reg.ccr = (flagMV s.reg.ccr || overflow) ∧
  t.mac.sl = (if overflow && !flagMV s.reg.ccr then t.mac.am.getLsbD 35 else s.mac.sl)

/-- The size of the buffer that a right-justified mask makes: mask plus 1, or the whole bank for a zero mask
(47_dsp.md R664). -/
def bufferSize (mask : Byte) : Nat := if mask = 0 then 2 ^ 16 else mask.toNat + 1

/-- An index register moved by a signed offset inside its buffer: the part above the buffer stays
(47_dsp.md R664). -/
def movedInBuffer (r : Word) (mask : Byte) (off : Ext) : Word :=
  let n := bufferSize mask
  BitVec.ofNat 16 (r.toNat / n * n + ((r.toInt + off.toInt) % (n : Int)).toNat)

/-- IX and IY have moved in their buffers, HR and IR are loaded from the new addresses, and nothing else of the MAC unit
but AM and SL has changed. A mask that is not right-justified leaves its index register free (log entry 20). -/
def BuffersMoved (s t : State) (xo yo : Ext) : Prop :=
  (s.mac.xmsk &&& (s.mac.xmsk + 1) = 0 → t.reg.ix = movedInBuffer s.reg.ix s.mac.xmsk xo) ∧
  (s.mac.ymsk &&& (s.mac.ymsk + 1) = 0 → t.reg.iy = movedInBuffer s.reg.iy s.mac.ymsk yo) ∧
  t.mac = { s.mac with hr := t.mac.hr, ir := t.mac.ir, am := t.mac.am, sl := t.mac.sl } ∧
  (s.readableFrom (pair s.reg.xk t.reg.ix) 2 = true → t.mac.hr = s.dataWord (pair s.reg.xk t.reg.ix)) ∧
  (s.readableFrom (pair s.reg.yk t.reg.iy) 2 = true → t.mac.ir = s.dataWord (pair s.reg.yk t.reg.iy))

/-- The saturation value (47_dsp.md R663, Table 11-2): by SL when MV is set, else by the sign of AM. -/
def saturation (mv sl sign : Bool) : Word :=
  if mv then (if sl then 0x7FFF else 0x8000) else if sign then 0x8000 else 0x7FFF

/-! ### Interrupts -/

/-- The request line of a level is asserted (60_exceptions.md R723). -/
def IrqLines.asserted (q : IrqLines) (l : BitVec 3) : Bool :=
  if l = 1 then q.irq1 else if l = 2 then q.irq2 else if l = 3 then q.irq3 else if l = 4 then q.irq4
  else if l = 5 then q.irq5 else if l = 6 then q.irq6 else if l = 7 then q.irq7 else false

/-- A level that may be recognised against the mask: its line is asserted and, below 7, it is above the mask, or, for 7,
the edge latch is set (60_exceptions.md R750). -/
def State.recognisable (s : State) (ip l : BitVec 3) : Bool :=
  s.plat.irq.asserted l && (if l = 7 then s.ctl.nmiLatch else decide (ip < l))

/-- The vector number of an acknowledge response (60_exceptions.md R755 to R757). -/
def vectorOf (l : BitVec 3) : IackResponse → Byte
  | .vector n => n
  | .autovector => 0x10 + l.setWidth 8
  | .busError => 0x18

/-! ### Background debugging mode -/

/-- A command has run: registers as `r`, MAC unit as `m`, the words `rest` left to execute, the replies sent; latches,
run state and memory stay (60_exceptions.md R797, R800). -/
def Commanded (s t : State) (r : Regs) (m : Mac) (rest : List Word) (replies : List (BitVec 17)) : Prop :=
  t.reg = r ∧ t.mac = m ∧ t.ctl = s.ctl ∧
    t.plat = { s.plat with bdmIn := rest, bdmOut := s.plat.bdmOut ++ replies } ∧ DataKept s t ∧ t.prog = s.prog

/-! ### Invariants -/

/-- Both memories are in their canonical form (log entry 4). -/
def State.memoryOk (s : State) : Bool := Memory.wf s.mem && Memory.wf s.prog

/-- Bit 0 of PC is zero (10_state.md R39). -/
def State.pcEven (s : State) : Bool := !s.reg.pc.getLsbD 0

end Sys2Proof.Machine
end

