-- ==== Sys2Proof/Certificates/Slice0/Obligations.lean ====
section
/-! DEFINITION. The statements for the provers. Each says what the machine does in every state that its premises name. -/

open Sys2Proof Sys2Proof.Machine

/-! ### Encoding -/

/-- Every well-formed instruction is read back from its words, whatever words follow. -/
def Obligations.DecodeEncodeRoundTrip : Prop :=
  ∀ (i : Instr) (rest : List Word), i.wellFormed = true → decodeWords (encode i ++ rest) = .ok i

/-- What the decoder reads is an instruction of the opcode table, and only its own words were looked at. -/
def Obligations.DecodeYieldsWellFormed : Prop :=
  ∀ (w0 w1 w2 : Word) (i : Instr), decode w0 w1 w2 = .ok i →
    i.wellFormed = true ∧ (i.length = 2 ∨ i.length = 4 ∨ i.length = 6) ∧
    (i.length = 2 → ∀ v1 v2, decode w0 v1 v2 = .ok i) ∧ (i.length = 4 → ∀ v2, decode w0 w1 v2 = .ok i)

/-- The unassigned opcodes are exactly those that 30_encoding.md R165 lists. -/
def Obligations.UnassignedOpcodes : Prop :=
  ∀ w0 w1 w2 : Word, decode w0 w1 w2 = .error (.unassignedOpcode w0) ↔
    hi w0 ∈ ([0x07, 0x7D, 0x7E, 0x7F, 0xFD, 0xFE, 0xFF] : List Byte) ∨
    (hi w0 = 0x17 ∧ ∃ r ∈ ([(0x07, 0x07), (0x0A, 0x0B), (0x17, 0x17), (0x1A, 0x1B), (0x27, 0x27), (0x2A, 0x2B),
      (0x37, 0x3B), (0x4B, 0x4B), (0x5B, 0x5B), (0x6B, 0x6B), (0x7B, 0x7B), (0x80, 0x8B), (0x90, 0x9B), (0xA0, 0xAB),
      (0xB0, 0xBB), (0xCB, 0xCB), (0xDB, 0xDB), (0xEB, 0xEB), (0xFB, 0xFB)] : List (Byte × Byte)),
      r.1 ≤ lo w0 ∧ lo w0 ≤ r.2) ∨
    (hi w0 = 0x27 ∧ ∃ r ∈ ([(0x07, 0x07), (0x0A, 0x0B), (0x17, 0x17), (0x1A, 0x1B), (0x27, 0x27), (0x2A, 0x2B),
      (0x37, 0x37), (0x3A, 0x3B), (0x4B, 0x4B), (0x5B, 0x5B), (0x5D, 0x5D), (0x6B, 0x6B), (0x6E, 0x6E), (0x89, 0x89),
      (0x8B, 0x8F), (0x99, 0x99), (0x9B, 0x9F), (0xA9, 0xA9), (0xAB, 0xAF), (0xBC, 0xBF), (0xCB, 0xCF), (0xDB, 0xDF),
      (0xEB, 0xEF)] : List (Byte × Byte)), r.1 ≤ lo w0 ∧ lo w0 ≤ r.2) ∨
    (hi w0 = 0x37 ∧ ∃ r ∈ ([(0x2E, 0x2E), (0x39, 0x39), (0x49, 0x49), (0x4B, 0x4B), (0x59, 0x59), (0x5B, 0x5B),
      (0x69, 0x69), (0x6B, 0x6B), (0x79, 0x79), (0x7B, 0x7B), (0x92, 0x9B), (0xA0, 0xA5), (0xA7, 0xAB), (0xB9, 0xBB),
      (0xC9, 0xC9), (0xCB, 0xCB), (0xCE, 0xCF), (0xD9, 0xD9), (0xDB, 0xDB), (0xDE, 0xDF), (0xE9, 0xE9), (0xEB, 0xEB),
      (0xEE, 0xEF), (0xF9, 0xF9), (0xFB, 0xFB)] : List (Byte × Byte)), r.1 ≤ lo w0 ∧ lo w0 ≤ r.2)

/-- Words written out from the spec's encodings decode to their instructions. -/
def Obligations.DecodingSample : Prop :=
  decodeWords [0x4505] = .ok (.ldaa (.mem (.ind8 .x 0x05))) ∧
  decodeWords [0x37B5, 0x1234] = .ok (.ldd (.imm16 0x1234)) ∧
  decodeWords [0x2785] = .ok (.ldd (.mem (.eoff .x))) ∧
  decodeWords [0x27B6] = .ok .aslm ∧
  decodeWords [0x3728] = .ok .ediv ∧
  decodeWords [0xB7FE] = .ok (.beq 0xFE) ∧
  decodeWords [0x373A, 0xFF1F] = .ok (.andp 0xFF1F) ∧
  decodeWords [0x7B2E] = .ok (.mac 0x2 0xE) ∧
  decodeWords [0x3720] = .ok .swi

/-! ### The step -/

/-- At a boundary where nothing is pending, or the inhibit holds interrupts off, a step is the meaning of the
instruction that the words at PK : PC minus 6 decode to; where BKPT was asserted at the fetch of its first word, the step
sets the BKPT latch as well once the instruction has finished. A fetch that ends in BERR reads $FFFF and sets the BERR
latch before the instruction runs; inside the double-bus-fault window it is a double bus fault and nothing runs. That
exactly the three words at IA, IA + 2 and IA + 4 are fetched is the model's reading of 70_reset_and_hazards.md R842 (log
entry 12). That every register, the CCR and, when halted, PK : PC stay at a double bus fault is the model's treatment (log
entry 38): 60_exceptions.md R733 does not state them, and U16 of 93_implementation_defined.md leaves PK : PC open. -/
def Obligations.StepRunsDecodedInstruction : Prop :=
  (∀ (s : State) (i : Instr), s.quiet = true →
    (s.ctl.inhibit = true ∨ s.pendingLevel (fieldIP s.reg.ccr) = none) → s.fetchKnown = true →
    decode (s.fetchedWord s.ia) (s.fetchedWord (s.ia + 2)) (s.fetchedWord (s.ia + 4)) = .ok i →
    s.isStale i.length = false →
    let tagged := inRanges s.plat.progBkpt s.ia.toNat
    let ready := (s.setInhibit false).setBerrLatch s.fetchBroken
    let closed := ((s.setInhibit false).setBerrLatch false).setBerrWindow false
    (tagged = false →
      (s.ctl.berrWindow = false → s.ctl.berrLatch = false → step s = exec i ready) ∧
      (s.ctl.berrWindow = true → s.fetchBroken = false → step s = exec i closed)) ∧
    (tagged = true → ∀ t : State,
      let after := fun u : State => if finished i u.pkpc t.pkpc then t.setBkptLatch true else t
      (s.ctl.berrWindow = false → s.ctl.berrLatch = false → exec i ready = .next t → step s = .next (after ready)) ∧
      (s.ctl.berrWindow = true → s.fetchBroken = false → exec i closed = .next t → step s = .next (after closed)))) ∧
  (∀ s : State, s.quiet = true → (s.ctl.inhibit = true ∨ s.pendingLevel (fieldIP s.reg.ccr) = none) →
    s.fetchKnown = true → s.ctl.berrWindow = true → s.fetchBroken = true →
    ∃ t, step s = .next t ∧ DoubleBusFaulted s t { s.ctl with inhibit := false })

/-- An unassigned opcode takes the illegal instruction exception: vector 7, the stacked value IA + 8, nothing else but
the BERR latch if one of the fetches ended in BERR, and the BKPT latch if BKPT was asserted at the fetch of the opcode. In
the double-bus-fault window, where every fetch answers, the window and the BERR latch are cleared first. That a failed
fetch delivers $FFFF is 60_exceptions.md R732; that this word, reaching execution as an opcode, takes the illegal
instruction exception is the model's treatment (log entry 7): R732 calls its results indeterminate, and U13 of
93_implementation_defined.md says that a proof must not rely on it. That an odd vector is made even is the spec's decision
D4 (log entry 10). -/
def Obligations.IllegalInstruction : Prop :=
  ∀ s : State, s.quiet = true → (s.ctl.inhibit = true ∨ s.pendingLevel (fieldIP s.reg.ccr) = none) →
    s.fetchKnown = true →
    decode (s.fetchedWord s.ia) (s.fetchedWord (s.ia + 2)) (s.fetchedWord (s.ia + 4)) =
      .error (.unassignedOpcode (s.fetchedWord s.ia)) →
    s.isStale 2 = false → s.exceptionReady 7 = true →
    let tagged := inRanges s.plat.progBkpt s.ia.toNat
    (s.ctl.berrWindow = false → s.ctl.berrLatch = false →
      ∃ t, step s = .next t ∧ ExceptionTaken s t (s.ia + 8) 7 [] ∧
        ControlHandler s 7 { s.ctl with berrLatch := s.fetchBroken, bkptLatch := tagged } t) ∧
    (s.ctl.berrWindow = true → s.fetchBroken = false →
      ∃ t, step s = .next t ∧ ExceptionTaken s t (s.ia + 8) 7 [] ∧
        ControlHandler s 7 { s.ctl with berrLatch := false, berrWindow := false, bkptLatch := tagged } t)

/-- Every instruction answers a next state in every state, and a step stops in two ways only: halted with no reset left
to come, or on a word stored inside the prefetch window. -/
def Obligations.StopsOnlyTwoWays : Prop :=
  (∀ (i : Instr) (s : State), ∃ t, exec i s = .next t) ∧
  (∀ (s : State) (f : Fault), step s = .fault f → f = .halted ∧ s.ctl.run = .halted ∧ ∀ b, .reset b ∉ s.plat.inputs) ∧
  (∀ (s : State) (r : Refusal), step s = .refused r → r = .storeIntoPrefetchWindow ∧ s.ctl.run = .running ∧ s.stale ≠ [])

/-- A step keeps both memories in their canonical form. -/
def Obligations.StepKeepsMemoryCanonical : Prop :=
  ∀ s t : State, s.memoryOk = true → step s = .next t → t.memoryOk = true

/-- Bit 0 of PC stays zero. -/
def Obligations.StepKeepsPcEven : Prop :=
  ∀ s t : State, s.pcEven = true → step s = .next t → t.pcEven = true

/-- The invariants hold after reset. -/
def Obligations.ResetMeetsInvariants : Prop := State.reset.memoryOk = true ∧ State.reset.pcEven = true

/-! ### Reset -/

/-- Reset from any state: the CCR fields, the extension fields, the latches, the run state and the vector; a reset that
arrives is applied by the step, in every run state. That the latches are cleared is the spec's decision D9 (log entry
32), and that an odd vector is made even its decision D4 (log entry 10). That BKPT at a fetch of the vector has no effect is
the model's choice (log entry 54). -/
def Obligations.ResetApplies : Prop :=
  (∀ (s : State) (enable : Bool) (rest : List Input), s.plat.inputs = .reset enable :: rest →
    step s = .next ({ s with plat := { s.plat with inputs := rest } }.applyReset enable)) ∧
  (∀ (s : State) (enable : Bool),
     s.fetchable 0 = true → s.fetchable 2 = true → s.fetchable 4 = true → s.fetchable 6 = true →
     let t := s.applyReset enable
     let w := s.progWord 0
     t.reg = { s.reg with
       ek := 0, xk := 0, yk := 0, zk := BitVec.extractLsb' 8 4 w, sk := BitVec.extractLsb' 4 4 w,
       sp := s.progWord 4, iz := s.progWord 6, pc := t.reg.pc, ccr := t.reg.ccr } ∧
     t.ia = evenAddr (pair (BitVec.extractLsb' 0 4 w) (s.progWord 2)) ∧
     fieldIP t.reg.ccr = 7 ∧ flagS t.reg.ccr = true ∧ flagSM t.reg.ccr = false ∧
     CcrKept [4, 5, 6, 7, 15] s t ∧ t.mac = s.mac ∧
     t.ctl = { run := .running, berrLatch := false, berrWindow := true, bkptLatch := false, nmiLatch := false,
               inhibit := false, bdmFlag := enable, ebiIP := s.ctl.ebiIP } ∧
     DataKept s t ∧ OutsideKept s t)

/-- The state after reset: the values that the spec gives, and the reset procedure changes nothing in it. That the last
holds rests on what unwritten memory reads (log entries 3 and 4). -/
def Obligations.ResetState : Prop :=
  flagS State.reset.reg.ccr = true ∧ fieldIP State.reset.reg.ccr = 7 ∧ flagSM State.reset.reg.ccr = false ∧
  State.reset.reg.ek = 0 ∧ State.reset.reg.xk = 0 ∧ State.reset.reg.yk = 0 ∧ State.reset.ctl.run = .running ∧
  State.reset.ctl.berrWindow = true ∧ State.reset.applyReset false = State.reset

/-! ### Memory and operands -/

/-- A store in RAM changes its own bytes only, and a read gives back what was stored, high byte first. -/
def Obligations.ReadAfterWrite : Prop :=
  ∀ (s : State) (a : Addr), s.executing = true →
    (∀ v : Byte, StoresByte s (s.write8 a v) a v ∧ (s.writable a = true → (s.write8 a v).byteAt a = v)) ∧
    (∀ v : Word, StoresWord s (s.write16 a v) a v ∧
      (s.writable a = true → s.writable (a + 1) = true →
        (s.write16 a v).wordAt a = v ∧ (s.write16 a v).byteAt a = hi v ∧ (s.write16 a v).byteAt (a + 1) = lo v)) ∧
    (s.readable a = true → s.byteAt a = s.dataByte a ∧
      (s.readable (a + 1) = true → s.wordAt a = s.dataWord a))

/-- A bus cycle that ends in BERR sets the latch and does nothing else to registers or memory; inside the window it is a
double bus fault. The cycles are every one where nothing answers, and the stores to a ROM that answers them so. Any other
cycle touches no latch but the BKPT latch, and every operand cycle sets that one exactly where BKPT is asserted. -/
def Obligations.BusErrorLatches : Prop :=
  ∀ (s : State) (a : Addr) (v : Byte),
    let ended := match kindAt s.plat.dataMap a.toNat with
      | .ram => []
      | .rom => []
      | .romBusError => [s.write8 a v]
      | .device => []
      | .busError => [(s.read8 a).2, s.write8 a v]
    let answered := match kindAt s.plat.dataMap a.toNat with
      | .ram => [(s.read8 a).2, s.write8 a v]
      | .rom => [(s.read8 a).2, s.write8 a v]
      | .romBusError => [(s.read8 a).2]
      | .device => [(s.read8 a).2, s.write8 a v]
      | .busError => []
    (s.executing = true → ∀ t ∈ ended,
      t.ctl.berrLatch = true ∧ t.reg = s.reg ∧ t.mac = s.mac ∧ ControlKept s t ∧ DataKept s t ∧ OutsideKept s t) ∧
    (s.executing = false → ∀ t ∈ ended,
      t.ctl.run = (if s.ctl.bdmFlag then .background else .halted) ∧ DataKept s t) ∧
    (∀ t ∈ [(s.read8 a).2, s.write8 a v], t.ctl.bkptLatch = (s.ctl.bkptLatch || s.breaks a)) ∧
    (∀ t ∈ answered, t.ctl = { s.ctl with bkptLatch := s.ctl.bkptLatch || s.breaks a })

/-- The effective address of every form, as a number modulo 2^20, and the value of every operand: memory there, or the
immediate, an 8-bit one on a word register sign-extended. -/
def Obligations.AddressesAndOperands : Prop :=
  (∀ (s : State) (i : Ix) (ff : BitVec 8) (w : BitVec 16) (b : BitVec 4) (off : BitVec 20),
     let base := match i with
       | .x => 65536 * s.reg.xk.toNat + s.reg.ix.toNat
       | .y => 65536 * s.reg.yk.toNat + s.reg.iy.toNat
       | .z => 65536 * s.reg.zk.toNat + s.reg.iz.toNat
     let index := match i with
       | .x => s.reg.ix.toNat
       | .y => s.reg.iy.toNat
       | .z => s.reg.iz.toNat
     (s.ea (.ind8 i ff)).toNat = (base + ff.toNat) % 2 ^ 20 ∧
     ((s.ea (.ind16 i w)).toNat : Int) = ((base : Int) + w.toInt) % 2 ^ 20 ∧
     (s.ea (.ext w)).toNat = 65536 * s.reg.ek.toNat + w.toNat ∧
     ((s.ea (.eoff i)).toNat : Int) = ((base : Int) + s.reg.e.toInt) % 2 ^ 20 ∧
     (s.jumpAddr (.ext20 b w)).toNat = 65536 * b.toNat + w.toNat ∧
     (s.jumpAddr (.ind20 i off)).toNat = (index + off.toNat) % 2 ^ 20) ∧
  (∀ (s : State) (m : Mem) (ii : BitVec 8) (jjkk : BitVec 16),
     s.m8 (.imm ii) = ii ∧ s.m16 (.imm16 jjkk) = jjkk ∧ (s.m16 (.imm8 ii)).toInt = ii.toInt ∧
     (s.readable (s.ea m) = true → s.m8 (.mem m) = s.dataByte (s.ea m)) ∧
     (s.readable (s.ea m) = true → s.readable (s.ea m + 1) = true → s.m16 (.mem m) = s.dataWord (s.ea m)))

/-! ### Data movement -/

/-- The loads: the register takes the operand; N, Z of it, V clear. -/
def Obligations.LoadsRegisters : Prop :=
  (∀ (s : State) (m : Src8), let v := s.m8 m
    ReadsInto (.ldaa m) s { s.reg with a := v } [11, 10, 9] (NZ0Of v) ∧
    ReadsInto (.ldab m) s { s.reg with b := v } [11, 10, 9] (NZ0Of v)) ∧
  (∀ (s : State) (m : Src16), let v := s.m16 m
    ReadsInto (.ldd m) s (s.reg.withD v) [11, 10, 9] (NZ0Of v) ∧
    ReadsInto (.lde m) s { s.reg with e := v } [11, 10, 9] (NZ0Of v) ∧
    ReadsInto (.ldx m) s { s.reg with ix := v } [11, 10, 9] (NZ0Of v) ∧
    ReadsInto (.ldy m) s { s.reg with iy := v } [11, 10, 9] (NZ0Of v) ∧
    ReadsInto (.ldz m) s { s.reg with iz := v } [11, 10, 9] (NZ0Of v) ∧
    ReadsInto (.lds m) s { s.reg with sp := v } [11, 10, 9] (NZ0Of v))

/-- The stores: the register's bytes at the effective address; N, Z of the register, V clear. -/
def Obligations.StoresRegisters : Prop :=
  ∀ (s : State) (m : Mem), let a := s.ea m
    WritesByte (.staa m) s s.reg [11, 10, 9] (NZ0Of s.reg.a) a s.reg.a ∧
    WritesByte (.stab m) s s.reg [11, 10, 9] (NZ0Of s.reg.b) a s.reg.b ∧
    WritesWord (.std m) s s.reg [11, 10, 9] (NZ0Of s.d) a s.d ∧
    WritesWord (.ste m) s s.reg [11, 10, 9] (NZ0Of s.reg.e) a s.reg.e ∧
    WritesWord (.stx m) s s.reg [11, 10, 9] (NZ0Of s.reg.ix) a s.reg.ix ∧
    WritesWord (.sty m) s s.reg [11, 10, 9] (NZ0Of s.reg.iy) a s.reg.iy ∧
    WritesWord (.stz m) s s.reg [11, 10, 9] (NZ0Of s.reg.iz) a s.reg.iz ∧
    WritesWord (.sts m) s s.reg [11, 10, 9] (NZ0Of s.reg.sp) a s.reg.sp

/-- LDED and STED move E, the high word at EK : hhll, and D, the low word two bytes above; no flag changes. -/
def Obligations.LongMoves : Prop :=
  ∀ (s : State) (hhll : BitVec 16), let a := pair s.reg.ek hhll
    (∃ e d : Word, ReadsInto (.lded hhll) s (s.reg.withED e d) [] anyFlags ∧
      (s.readableFrom a 4 = true → e = s.dataWord a ∧ d = s.dataWord (a + 2))) ∧
    (s.executing = true → Completes (.sted hhll) s fun t =>
      RegsBecome s.reg t ∧ Advanced (.sted hhll) s t ∧ CcrKept [] s t ∧ t.mac = s.mac ∧ ControlKept s t ∧
      OutsideKept s t ∧
      StoresCells s t [(a, hi s.reg.e), (a + 1, lo s.reg.e), (a + 2, hi s.d), (a + 3, lo s.d)])

/-- MOVB and MOVW in their three forms: the value moved, N, Z of it, V clear; XK : IX moves on by the offset after an
indexed access. -/
def Obligations.Moves : Prop :=
  ∀ (s : State) (ff : BitVec 8) (p q : BitVec 16),
    let a := pair s.reg.ek p
    let b := pair s.reg.ek q
    let moved := s.reg.withX (s.xkix + BitVec.ofInt 20 ff.toInt)
    WritesByte (.movb (.ixpToExt ff p)) s moved [11, 10, 9] (NZ0Of (s.byteAt s.xkix)) a (s.byteAt s.xkix) ∧
    WritesByte (.movb (.extToIxp p ff)) s moved [11, 10, 9] (NZ0Of (s.byteAt a)) s.xkix (s.byteAt a) ∧
    WritesByte (.movb (.extToExt p q)) s s.reg [11, 10, 9] (NZ0Of (s.byteAt a)) b (s.byteAt a) ∧
    WritesWord (.movw (.ixpToExt ff p)) s moved [11, 10, 9] (NZ0Of (s.wordAt s.xkix)) a (s.wordAt s.xkix) ∧
    WritesWord (.movw (.extToIxp p ff)) s moved [11, 10, 9] (NZ0Of (s.wordAt a)) s.xkix (s.wordAt a) ∧
    WritesWord (.movw (.extToExt p q)) s s.reg [11, 10, 9] (NZ0Of (s.wordAt a)) b (s.wordAt a)

/-- Transfers and exchanges between A, B, D, E: a transfer sets N, Z and clears V, an exchange changes no flag. -/
def Obligations.AccumulatorTransfers : Prop :=
  ∀ s : State,
    Computes .tab s { s.reg with b := s.reg.a } [11, 10, 9] (NZ0Of s.reg.a) ∧
    Computes .tba s { s.reg with a := s.reg.b } [11, 10, 9] (NZ0Of s.reg.b) ∧
    Computes .tde s { s.reg with e := s.d } [11, 10, 9] (NZ0Of s.d) ∧
    Computes .ted s (s.reg.withD s.reg.e) [11, 10, 9] (NZ0Of s.reg.e) ∧
    Computes .xgab s { s.reg with a := s.reg.b, b := s.reg.a } [] anyFlags ∧
    Computes .xgde s (s.reg.withED s.d s.reg.e) [] anyFlags

/-! ### Arithmetic -/

/-- The 8-bit additions: the sum modulo 2^8, and H, N, Z, V, C by the manual's equations. -/
def Obligations.AddsBytes : Prop :=
  ∀ (s : State) (m : Src8),
    let v := s.m8 m
    let c := (flagC s.reg.ccr).toNat
    let sum := fun (x y : Byte) (k : Nat) => BitVec.ofNat 8 (x.toNat + y.toNat + k)
    ReadsInto (.adda m) s { s.reg with a := sum s.reg.a v 0 } [13, 11, 10, 9, 8]
      (AddEquationsH s.reg.a v (sum s.reg.a v 0)) ∧
    ReadsInto (.addb m) s { s.reg with b := sum s.reg.b v 0 } [13, 11, 10, 9, 8]
      (AddEquationsH s.reg.b v (sum s.reg.b v 0)) ∧
    ReadsInto (.adca m) s { s.reg with a := sum s.reg.a v c } [13, 11, 10, 9, 8]
      (AddEquationsH s.reg.a v (sum s.reg.a v c)) ∧
    ReadsInto (.adcb m) s { s.reg with b := sum s.reg.b v c } [13, 11, 10, 9, 8]
      (AddEquationsH s.reg.b v (sum s.reg.b v c)) ∧
    Computes .aba s { s.reg with a := sum s.reg.a s.reg.b 0 } [13, 11, 10, 9, 8]
      (AddEquationsH s.reg.a s.reg.b (sum s.reg.a s.reg.b 0))

/-- The 16-bit additions: the sum modulo 2^16, and N, Z, V, C by the manual's equations; H stays. -/
def Obligations.AddsWords : Prop :=
  ∀ (s : State) (m : Src16),
    let v := s.m16 m
    let c := (flagC s.reg.ccr).toNat
    let sum := fun (x y : Word) (k : Nat) => BitVec.ofNat 16 (x.toNat + y.toNat + k)
    ReadsInto (.addd m) s (s.reg.withD (sum s.d v 0)) [11, 10, 9, 8] (AddEquations s.d v (sum s.d v 0)) ∧
    ReadsInto (.adde m) s { s.reg with e := sum s.reg.e v 0 } [11, 10, 9, 8]
      (AddEquations s.reg.e v (sum s.reg.e v 0)) ∧
    ReadsInto (.adcd m) s (s.reg.withD (sum s.d v c)) [11, 10, 9, 8] (AddEquations s.d v (sum s.d v c)) ∧
    ReadsInto (.adce m) s { s.reg with e := sum s.reg.e v c } [11, 10, 9, 8]
      (AddEquations s.reg.e v (sum s.reg.e v c)) ∧
    Computes .ade s { s.reg with e := sum s.reg.e s.d 0 } [11, 10, 9, 8]
      (AddEquations s.reg.e s.d (sum s.reg.e s.d 0))

/-- The 8-bit subtractions: the difference modulo 2^8, and N, Z, V, C by the manual's equations; H stays. -/
def Obligations.SubtractsBytes : Prop :=
  ∀ (s : State) (m : Src8),
    let v := s.m8 m
    let c := (flagC s.reg.ccr).toNat
    let dif := fun (x y : Byte) (k : Nat) => BitVec.ofInt 8 ((x.toNat : Int) - y.toNat - k)
    ReadsInto (.suba m) s { s.reg with a := dif s.reg.a v 0 } [11, 10, 9, 8]
      (SubEquations s.reg.a v (dif s.reg.a v 0)) ∧
    ReadsInto (.subb m) s { s.reg with b := dif s.reg.b v 0 } [11, 10, 9, 8]
      (SubEquations s.reg.b v (dif s.reg.b v 0)) ∧
    ReadsInto (.sbca m) s { s.reg with a := dif s.reg.a v c } [11, 10, 9, 8]
      (SubEquations s.reg.a v (dif s.reg.a v c)) ∧
    ReadsInto (.sbcb m) s { s.reg with b := dif s.reg.b v c } [11, 10, 9, 8]
      (SubEquations s.reg.b v (dif s.reg.b v c)) ∧
    Computes .sba s { s.reg with a := dif s.reg.a s.reg.b 0 } [11, 10, 9, 8]
      (SubEquations s.reg.a s.reg.b (dif s.reg.a s.reg.b 0))

/-- The 16-bit subtractions. -/
def Obligations.SubtractsWords : Prop :=
  ∀ (s : State) (m : Src16),
    let v := s.m16 m
    let c := (flagC s.reg.ccr).toNat
    let dif := fun (x y : Word) (k : Nat) => BitVec.ofInt 16 ((x.toNat : Int) - y.toNat - k)
    ReadsInto (.subd m) s (s.reg.withD (dif s.d v 0)) [11, 10, 9, 8] (SubEquations s.d v (dif s.d v 0)) ∧
    ReadsInto (.sube m) s { s.reg with e := dif s.reg.e v 0 } [11, 10, 9, 8]
      (SubEquations s.reg.e v (dif s.reg.e v 0)) ∧
    ReadsInto (.sbcd m) s (s.reg.withD (dif s.d v c)) [11, 10, 9, 8] (SubEquations s.d v (dif s.d v c)) ∧
    ReadsInto (.sbce m) s { s.reg with e := dif s.reg.e v c } [11, 10, 9, 8]
      (SubEquations s.reg.e v (dif s.reg.e v c)) ∧
    Computes .sde s { s.reg with e := dif s.reg.e s.d 0 } [11, 10, 9, 8]
      (SubEquations s.reg.e s.d (dif s.reg.e s.d 0))

/-- The compares: the flags of a subtraction, no register changes. -/
def Obligations.Compares : Prop :=
  ∀ (s : State) (m : Src8) (n : Src16),
    let v := s.m8 m
    let w := s.m16 n
    ReadsInto (.cmpa m) s s.reg [11, 10, 9, 8] (SubEquations s.reg.a v (s.reg.a - v)) ∧
    ReadsInto (.cmpb m) s s.reg [11, 10, 9, 8] (SubEquations s.reg.b v (s.reg.b - v)) ∧
    ReadsInto (.cpd n) s s.reg [11, 10, 9, 8] (SubEquations s.d w (s.d - w)) ∧
    ReadsInto (.cpe n) s s.reg [11, 10, 9, 8] (SubEquations s.reg.e w (s.reg.e - w)) ∧
    ReadsInto (.cpx n) s s.reg [11, 10, 9, 8] (SubEquations s.reg.ix w (s.reg.ix - w)) ∧
    ReadsInto (.cpy n) s s.reg [11, 10, 9, 8] (SubEquations s.reg.iy w (s.reg.iy - w)) ∧
    ReadsInto (.cpz n) s s.reg [11, 10, 9, 8] (SubEquations s.reg.iz w (s.reg.iz - w)) ∧
    ReadsInto (.cps n) s s.reg [11, 10, 9, 8] (SubEquations s.reg.sp w (s.reg.sp - w)) ∧
    Computes .cba s s.reg [11, 10, 9, 8] (SubEquations s.reg.a s.reg.b (s.reg.a - s.reg.b))

/-- Test, increment, decrement, clear, complement and negate on A, B, D, E. -/
def Obligations.OneRegister : Prop :=
  ∀ s : State,
    let A := fun v : Byte => { s.reg with a := v }
    let B := fun v : Byte => { s.reg with b := v }
    let D := fun v : Word => s.reg.withD v
    let E := fun v : Word => { s.reg with e := v }
    Computes .tsta s s.reg [11, 10, 9, 8] (TstFlags s.reg.a) ∧ Computes .tstb s s.reg [11, 10, 9, 8] (TstFlags s.reg.b) ∧
    Computes .tstd s s.reg [11, 10, 9, 8] (TstFlags s.d) ∧ Computes .tste s s.reg [11, 10, 9, 8] (TstFlags s.reg.e) ∧
    Computes .inca s (A (s.reg.a + 1)) [11, 10, 9] (IncFlags s.reg.a) ∧
    Computes .incb s (B (s.reg.b + 1)) [11, 10, 9] (IncFlags s.reg.b) ∧
    Computes .deca s (A (s.reg.a - 1)) [11, 10, 9] (DecFlags s.reg.a) ∧
    Computes .decb s (B (s.reg.b - 1)) [11, 10, 9] (DecFlags s.reg.b) ∧
    Computes .clra s (A 0) [11, 10, 9, 8] ClrFlags ∧ Computes .clrb s (B 0) [11, 10, 9, 8] ClrFlags ∧
    Computes .clrd s (D 0) [11, 10, 9, 8] ClrFlags ∧ Computes .clre s (E 0) [11, 10, 9, 8] ClrFlags ∧
    Computes .coma s (A (~~~s.reg.a)) [11, 10, 9, 8] (ComFlags s.reg.a) ∧
    Computes .comb s (B (~~~s.reg.b)) [11, 10, 9, 8] (ComFlags s.reg.b) ∧
    Computes .comd s (D (~~~s.d)) [11, 10, 9, 8] (ComFlags s.d) ∧
    Computes .come s (E (~~~s.reg.e)) [11, 10, 9, 8] (ComFlags s.reg.e) ∧
    Computes .nega s (A (-s.reg.a)) [11, 10, 9, 8] (NegFlags s.reg.a) ∧
    Computes .negb s (B (-s.reg.b)) [11, 10, 9, 8] (NegFlags s.reg.b) ∧
    Computes .negd s (D (-s.d)) [11, 10, 9, 8] (NegFlags s.d) ∧
    Computes .nege s (E (-s.reg.e)) [11, 10, 9, 8] (NegFlags s.reg.e)

/-- The same on a byte and on a word of memory: one read and one write at the same address; TST and TSTW do not write. -/
def Obligations.OneMemoryOperand : Prop :=
  ∀ (s : State) (m : Mem),
    let a := s.ea m
    let x := s.byteAt a
    let y := s.wordAt a
    ReadsInto (.tst m) s s.reg [11, 10, 9, 8] (TstFlags x) ∧ ReadsInto (.tstw m) s s.reg [11, 10, 9, 8] (TstFlags y) ∧
    WritesByte (.inc m) s s.reg [11, 10, 9] (IncFlags x) a (x + 1) ∧
    WritesWord (.incw m) s s.reg [11, 10, 9] (IncFlags y) a (y + 1) ∧
    WritesByte (.dec m) s s.reg [11, 10, 9] (DecFlags x) a (x - 1) ∧
    WritesWord (.decw m) s s.reg [11, 10, 9] (DecFlags y) a (y - 1) ∧
    WritesByte (.clr m) s s.reg [11, 10, 9, 8] ClrFlags a 0 ∧ WritesWord (.clrw m) s s.reg [11, 10, 9, 8] ClrFlags a 0 ∧
    WritesByte (.com m) s s.reg [11, 10, 9, 8] (ComFlags x) a (~~~x) ∧
    WritesWord (.comw m) s s.reg [11, 10, 9, 8] (ComFlags y) a (~~~y) ∧
    WritesByte (.neg m) s s.reg [11, 10, 9, 8] (NegFlags x) a (-x) ∧
    WritesWord (.negw m) s s.reg [11, 10, 9, 8] (NegFlags y) a (-y)

/-- DAA for every row of its table (C, A[7:4] from-to, H, A[3:0] from-to, correction, new C), N and Z of the result in
every state, and SXT with Z of A. V after DAA is not claimed; Z of A after SXT is the spec's decision D15 (log entry
26). -/
def Obligations.DecimalAdjustAndSignExtend : Prop :=
  ∀ s : State,
    (∀ row ∈ ([(false, 0, 9, false, 0, 9, 0x00, false), (false, 0, 8, false, 10, 15, 0x06, false),
        (false, 0, 9, true, 0, 3, 0x06, false), (false, 10, 15, false, 0, 9, 0x60, true),
        (false, 9, 15, false, 10, 15, 0x66, true), (false, 10, 15, true, 0, 3, 0x66, true),
        (true, 0, 2, false, 0, 9, 0x60, true), (true, 0, 2, false, 10, 15, 0x66, true),
        (true, 0, 3, true, 0, 3, 0x66, true)] : List (Bool × Nat × Nat × Bool × Nat × Nat × Byte × Bool)),
      let (c, hiFrom, hiTo, h, loFrom, loTo, correction, c') := row
      flagC s.reg.ccr = c → hiFrom ≤ s.reg.a.toNat / 16 → s.reg.a.toNat / 16 ≤ hiTo → flagH s.reg.ccr = h →
      loFrom ≤ s.reg.a.toNat % 16 → s.reg.a.toNat % 16 ≤ loTo →
      Computes .daa s { s.reg with a := s.reg.a + correction } [11, 10, 9, 8]
        (fun f => NZOf (s.reg.a + correction) f ∧ flagC f = c')) ∧
    (∃ v : Byte, Computes .daa s { s.reg with a := v } [11, 10, 9, 8] (NZOf v)) ∧
    Computes .sxt s { s.reg with a := if s.reg.b.getLsbD 7 then 0xFF else 0x00 } [11, 10]
      (NZOf (if s.reg.b.getLsbD 7 then 0xFF#8 else 0x00#8))

/-! ### Multiplication and division -/

/-- The multiplications: the exact product, fractional for FMULS, and their flags. -/
def Obligations.Multiplications : Prop :=
  ∀ s : State,
    (∃ d : Word, d.toNat = s.reg.a.toNat * s.reg.b.toNat ∧
      Computes .mul s (s.reg.withD d) [8] (fun f => flagC f = d.getLsbD 7)) ∧
    (∃ e d : Word, (long e d).toNat = s.reg.e.toNat * s.d.toNat ∧
      Computes .emul s (s.reg.withED e d) [11, 10, 8] (fun f => NZOf (long e d) f ∧ flagC f = d.getLsbD 15)) ∧
    (∃ e d : Word, (long e d).toInt = s.reg.e.toInt * s.d.toInt ∧
      Computes .emuls s (s.reg.withED e d) [11, 10, 8] (fun f => NZOf (long e d) f ∧ flagC f = d.getLsbD 15)) ∧
    (∃ e d : Word,
      (¬(s.reg.e = 0x8000 ∧ s.d = 0x8000) → (long e d).toInt = 2 * (s.reg.e.toInt * s.d.toInt)) ∧
      (s.reg.e = 0x8000 ∧ s.d = 0x8000 → long e d = 0x80000000) ∧
      Computes .fmuls s (s.reg.withED e d) [11, 10, 9, 8] (fun f => NZOf (long e d) f ∧
        flagC f = d.getLsbD 15 ∧ flagV f = decide (s.reg.e = 0x8000 ∧ s.d = 0x8000)))

/-- EDIV and EDIVS with a quotient that fits: IX the quotient, D the remainder, C the rounding aid; one that does not fit
sets V and changes nothing but IX, D, N, Z, C. The quotient of EDIVS is truncated toward zero, the spec's decision D18
(log entry 17). -/
def Obligations.ExtendedDivisions : Prop :=
  ∀ s : State,
    (s.reg.ix ≠ 0 → s.ed.toNat < 2 ^ 16 * s.reg.ix.toNat →
      ∃ q r : Word, s.ed.toNat = q.toNat * s.reg.ix.toNat + r.toNat ∧ r.toNat < s.reg.ix.toNat ∧
        Computes .ediv s { (s.reg.withD r) with ix := q } [11, 10, 9, 8]
          (fun f => NZ0Of q f ∧ flagC f = decide (s.reg.ix.toNat ≤ 2 * r.toNat))) ∧
    (∀ q r : Int, s.reg.ix ≠ 0 → s.ed.toInt = q * s.reg.ix.toInt + r → r.natAbs < s.reg.ix.toInt.natAbs →
      (0 ≤ s.ed.toInt → 0 ≤ r) → (s.ed.toInt ≤ 0 → r ≤ 0) → -32768 ≤ q → q ≤ 32767 →
      Computes .edivs s { (s.reg.withD (BitVec.ofInt 16 r)) with ix := BitVec.ofInt 16 q } [11, 10, 9, 8]
        (fun f => NZ0Of (BitVec.ofInt 16 q) f ∧ flagC f = decide (s.reg.ix.toInt.natAbs ≤ 2 * r.natAbs))) ∧
    (s.reg.ix ≠ 0 → 2 ^ 16 * s.reg.ix.toNat ≤ s.ed.toNat →
      ∃ x d : Word, Computes .ediv s { (s.reg.withD d) with ix := x } [11, 10, 9, 8] (fun f => flagV f = true)) ∧
    (∀ q r : Int, s.reg.ix ≠ 0 → s.ed.toInt = q * s.reg.ix.toInt + r → r.natAbs < s.reg.ix.toInt.natAbs →
      (0 ≤ s.ed.toInt → 0 ≤ r) → (s.ed.toInt ≤ 0 → r ≤ 0) → q < -32768 ∨ 32767 < q →
      ∃ x d : Word, Computes .edivs s { (s.reg.withD d) with ix := x } [11, 10, 9, 8] (fun f => flagV f = true))

/-- A zero divisor of EDIV or EDIVS takes the division by zero exception: vector 8, stacked IA + 8, E, D unchanged; N, Z,
V, C of the stacked CCR are not claimed. That IX stays is the spec's decision D17 (log entry 15), and that an odd vector
is made even its decision D4 (log entry 10). -/
def Obligations.DivisionByZero : Prop :=
  ∀ (s : State) (i : Instr), i = .ediv ∨ i = .edivs → s.executing = true → s.reg.ix = 0 →
    s.exceptionReady 8 = true →
    ∃ c : Word, (∀ k, k ∉ [8, 9, 10, 11] → c.getLsbD k = s.reg.ccr.getLsbD k) ∧
      Completes i s fun t => ExceptionTaken (s.setCcr c) t (s.ia + 8) 8 [] ∧ ControlHandler s 8 s.ctl t

/-- IDIV and FDIV, with every divisor: a quotient that does not exist reads $FFFF, and then D is not claimed. -/
def Obligations.ShortDivisions : Prop :=
  ∀ s : State,
    let n := s.d.toNat
    let d := s.reg.ix.toNat
    (d ≠ 0 → ∃ q r : Word, n = q.toNat * d + r.toNat ∧ r.toNat < d ∧
      Computes .idiv s { (s.reg.withD r) with ix := q } [10, 9, 8]
        (fun f => flagZ f = decide (q = 0) ∧ flagV f = false ∧ flagC f = false)) ∧
    (d = 0 → ∃ r : Word, Computes .idiv s { (s.reg.withD r) with ix := 0xFFFF } [10, 9, 8]
      (fun f => flagZ f = false ∧ flagV f = false ∧ flagC f = true)) ∧
    (n < d → ∃ q r : Word, n * 2 ^ 16 = q.toNat * d + r.toNat ∧ r.toNat < d ∧
      Computes .fdiv s { (s.reg.withD r) with ix := q } [10, 9, 8]
        (fun f => flagZ f = decide (q = 0) ∧ flagV f = false ∧ flagC f = false)) ∧
    (d ≤ n → ∃ r : Word, Computes .fdiv s { (s.reg.withD r) with ix := 0xFFFF } [10, 9, 8]
      (fun f => flagZ f = false ∧ flagV f = true ∧ flagC f = decide (d = 0)))

/-! ### Logic and bits -/

/-- AND, OR, EOR on A, B, D, E, the bit tests, and the mask's bits cleared or set in memory, even when that changes no
bit: N, Z of the result, V clear. -/
def Obligations.LogicOperations : Prop :=
  (∀ (s : State) (m : Src8), let v := s.m8 m
    ReadsInto (.anda m) s { s.reg with a := s.reg.a &&& v } [11, 10, 9] (NZ0Of (s.reg.a &&& v)) ∧
    ReadsInto (.andb m) s { s.reg with b := s.reg.b &&& v } [11, 10, 9] (NZ0Of (s.reg.b &&& v)) ∧
    ReadsInto (.oraa m) s { s.reg with a := s.reg.a ||| v } [11, 10, 9] (NZ0Of (s.reg.a ||| v)) ∧
    ReadsInto (.orab m) s { s.reg with b := s.reg.b ||| v } [11, 10, 9] (NZ0Of (s.reg.b ||| v)) ∧
    ReadsInto (.eora m) s { s.reg with a := s.reg.a ^^^ v } [11, 10, 9] (NZ0Of (s.reg.a ^^^ v)) ∧
    ReadsInto (.eorb m) s { s.reg with b := s.reg.b ^^^ v } [11, 10, 9] (NZ0Of (s.reg.b ^^^ v)) ∧
    ReadsInto (.bita m) s s.reg [11, 10, 9] (NZ0Of (s.reg.a &&& v)) ∧
    ReadsInto (.bitb m) s s.reg [11, 10, 9] (NZ0Of (s.reg.b &&& v))) ∧
  (∀ (s : State) (m : Src16), let v := s.m16 m
    ReadsInto (.andd m) s (s.reg.withD (s.d &&& v)) [11, 10, 9] (NZ0Of (s.d &&& v)) ∧
    ReadsInto (.ande m) s { s.reg with e := s.reg.e &&& v } [11, 10, 9] (NZ0Of (s.reg.e &&& v)) ∧
    ReadsInto (.ord m) s (s.reg.withD (s.d ||| v)) [11, 10, 9] (NZ0Of (s.d ||| v)) ∧
    ReadsInto (.ore m) s { s.reg with e := s.reg.e ||| v } [11, 10, 9] (NZ0Of (s.reg.e ||| v)) ∧
    ReadsInto (.eord m) s (s.reg.withD (s.d ^^^ v)) [11, 10, 9] (NZ0Of (s.d ^^^ v)) ∧
    ReadsInto (.eore m) s { s.reg with e := s.reg.e ^^^ v } [11, 10, 9] (NZ0Of (s.reg.e ^^^ v))) ∧
  (∀ (s : State) (m : Mem) (mm : BitVec 8) (mmmm : BitVec 16),
    let a := s.ea m
    let x := s.byteAt a
    let y := s.wordAt a
    WritesByte (.bclr m mm) s s.reg [11, 10, 9] (NZ0Of (x &&& ~~~mm)) a (x &&& ~~~mm) ∧
    WritesByte (.bset m mm) s s.reg [11, 10, 9] (NZ0Of (x ||| mm)) a (x ||| mm) ∧
    WritesWord (.bclrw m mmmm) s s.reg [11, 10, 9] (NZ0Of (y &&& ~~~mmmm)) a (y &&& ~~~mmmm) ∧
    WritesWord (.bsetw m mmmm) s s.reg [11, 10, 9] (NZ0Of (y ||| mmmm)) a (y ||| mmmm))

/-! ### Shifts and rotates -/

/-- Shifts and rotates of A, B, D, E: the value, C the bit shifted out, V = N XOR C. -/
def Obligations.RegisterShifts : Prop :=
  ∀ s : State,
    let c := flagC s.reg.ccr
    let A := fun v : Byte => { s.reg with a := v }
    let B := fun v : Byte => { s.reg with b := v }
    let D := fun v : Word => s.reg.withD v
    let E := fun v : Word => { s.reg with e := v }
    let F := [11, 10, 9, 8]
    let a := s.reg.a
    let b := s.reg.b
    let d := s.d
    let e := s.reg.e
    Computes .lsra s (A (halfUnsigned a)) F (ShiftFlags (halfUnsigned a) (a.getLsbD 0)) ∧
    Computes .lsrb s (B (halfUnsigned b)) F (ShiftFlags (halfUnsigned b) (b.getLsbD 0)) ∧
    Computes .lsrd s (D (halfUnsigned d)) F (ShiftFlags (halfUnsigned d) (d.getLsbD 0)) ∧
    Computes .lsre s (E (halfUnsigned e)) F (ShiftFlags (halfUnsigned e) (e.getLsbD 0)) ∧
    Computes .asla s (A (twice a)) F (ShiftFlags (twice a) (a.getLsbD 7)) ∧
    Computes .aslb s (B (twice b)) F (ShiftFlags (twice b) (b.getLsbD 7)) ∧
    Computes .asld s (D (twice d)) F (ShiftFlags (twice d) (d.getLsbD 15)) ∧
    Computes .asle s (E (twice e)) F (ShiftFlags (twice e) (e.getLsbD 15)) ∧
    Computes .asra s (A (halfSigned a)) F (ShiftFlags (halfSigned a) (a.getLsbD 0)) ∧
    Computes .asrb s (B (halfSigned b)) F (ShiftFlags (halfSigned b) (b.getLsbD 0)) ∧
    Computes .asrd s (D (halfSigned d)) F (ShiftFlags (halfSigned d) (d.getLsbD 0)) ∧
    Computes .asre s (E (halfSigned e)) F (ShiftFlags (halfSigned e) (e.getLsbD 0)) ∧
    Computes .rola s (A (twicePlus c a)) F (ShiftFlags (twicePlus c a) (a.getLsbD 7)) ∧
    Computes .rolb s (B (twicePlus c b)) F (ShiftFlags (twicePlus c b) (b.getLsbD 7)) ∧
    Computes .rold s (D (twicePlus c d)) F (ShiftFlags (twicePlus c d) (d.getLsbD 15)) ∧
    Computes .role s (E (twicePlus c e)) F (ShiftFlags (twicePlus c e) (e.getLsbD 15)) ∧
    Computes .rora s (A (halfBelow c a)) F (ShiftFlags (halfBelow c a) (a.getLsbD 0)) ∧
    Computes .rorb s (B (halfBelow c b)) F (ShiftFlags (halfBelow c b) (b.getLsbD 0)) ∧
    Computes .rord s (D (halfBelow c d)) F (ShiftFlags (halfBelow c d) (d.getLsbD 0)) ∧
    Computes .rore s (E (halfBelow c e)) F (ShiftFlags (halfBelow c e) (e.getLsbD 0))

/-- Shifts and rotates of a byte or a word of memory. -/
def Obligations.MemoryShifts : Prop :=
  ∀ (s : State) (m : Mem),
    let c := flagC s.reg.ccr
    let F := [11, 10, 9, 8]
    let a := s.ea m
    let x := s.byteAt a
    let y := s.wordAt a
    WritesByte (.lsr m) s s.reg F (ShiftFlags (halfUnsigned x) (x.getLsbD 0)) a (halfUnsigned x) ∧
    WritesWord (.lsrw m) s s.reg F (ShiftFlags (halfUnsigned y) (y.getLsbD 0)) a (halfUnsigned y) ∧
    WritesByte (.asl m) s s.reg F (ShiftFlags (twice x) (x.getLsbD 7)) a (twice x) ∧
    WritesWord (.aslw m) s s.reg F (ShiftFlags (twice y) (y.getLsbD 15)) a (twice y) ∧
    WritesByte (.asr m) s s.reg F (ShiftFlags (halfSigned x) (x.getLsbD 0)) a (halfSigned x) ∧
    WritesWord (.asrw m) s s.reg F (ShiftFlags (halfSigned y) (y.getLsbD 0)) a (halfSigned y) ∧
    WritesByte (.rol m) s s.reg F (ShiftFlags (twicePlus c x) (x.getLsbD 7)) a (twicePlus c x) ∧
    WritesWord (.rolw m) s s.reg F (ShiftFlags (twicePlus c y) (y.getLsbD 15)) a (twicePlus c y) ∧
    WritesByte (.ror m) s s.reg F (ShiftFlags (halfBelow c x) (x.getLsbD 0)) a (halfBelow c x) ∧
    WritesWord (.rorw m) s s.reg F (ShiftFlags (halfBelow c y) (y.getLsbD 0)) a (halfBelow c y)

/-! ### Program control -/

/-- The branches: taken exactly when the condition of their row holds, to IA + 6 plus the signed offset, made even; else
to the next instruction. -/
def Obligations.ConditionalBranches : Prop :=
  (∀ (s : State) (rr : BitVec 8),
     let f := s.reg.ccr
     let n := flagN f
     let z := flagZ f
     let v := flagV f
     let c := flagC f
     ∀ e ∈ ([(.bra rr, true), (.brn rr, false), (.bcc rr, !c), (.bcs rr, c), (.beq rr, z), (.bge rr, !(xor n v)),
         (.bgt rr, !(z || xor n v)), (.bhi rr, !(c || z)), (.ble rr, z || xor n v), (.bls rr, c || z),
         (.blt rr, xor n v), (.bmi rr, n), (.bne rr, !z), (.bpl rr, !n), (.bvc rr, !v), (.bvs rr, v)] :
         List (Instr × Bool)),
       Branches e.1 s e.2 (evenAddr (s.ia + 6 + BitVec.ofInt 20 rr.toInt))) ∧
  (∀ (s : State) (rrrr : BitVec 16),
     let f := s.reg.ccr
     let n := flagN f
     let z := flagZ f
     let v := flagV f
     let c := flagC f
     ∀ e ∈ ([(.lbra rrrr, true), (.lbrn rrrr, false), (.lbcc rrrr, !c), (.lbcs rrrr, c), (.lbeq rrrr, z),
         (.lbge rrrr, !(xor n v)), (.lbgt rrrr, !(z || xor n v)), (.lbhi rrrr, !(c || z)), (.lble rrrr, z || xor n v),
         (.lbls rrrr, c || z), (.lblt rrrr, xor n v), (.lbmi rrrr, n), (.lbne rrrr, !z), (.lbpl rrrr, !n),
         (.lbvc rrrr, !v), (.lbvs rrrr, v), (.lbev rrrr, flagEV f), (.lbmv rrrr, flagMV f)] : List (Instr × Bool)),
       Branches e.1 s e.2 (evenAddr (s.ia + 6 + BitVec.ofInt 20 rrrr.toInt)))

/-- BRCLR branches when all bits of the mask are 0 in the byte, BRSET when all are 1; the byte is read once, nothing is
written, no flag changes. -/
def Obligations.BitBranches : Prop :=
  ∀ (s : State) (m : Mem) (mm : BitVec 8) (r : Rel),
    let x := s.byteAt (s.ea m)
    let off := match r with
      | .r8 rr => rr.toInt
      | .r16 rrrr => rrrr.toInt
    ∀ e ∈ ([(.brclr m mm r, decide (x &&& mm = 0)), (.brset m mm r, decide (x &&& mm = mm))] : List (Instr × Bool)),
      e.1.wellFormed = true → s.executing = true → Completes e.1 s fun t =>
        t.ia = (if e.2 then evenAddr (s.ia + 6 + BitVec.ofInt 20 off) else s.ia + BitVec.ofNat 20 e.1.length) ∧
        RegsBecome s.reg t ∧ CcrKept [] s t ∧ t.mac = s.mac ∧ ControlKept s t ∧ DataKept s t ∧ OutsideKept s t

/-- JMP goes to its address; JSR, LBSR and BSR stack the biased return value and the CCR first. That the offset of BSR is
relative to IA + 4 is the spec's decision D19 (log entry 21), and that an odd target is made even its decision D4 (log
entry 10). -/
def Obligations.JumpsAndCalls : Prop :=
  ∀ (s : State) (j : JumpTarget) (rr : BitVec 8) (rrrr : BitVec 16),
    Branches (.jmp j) s true (evenAddr (s.jumpAddr j)) ∧
    (∀ e ∈ ([(.jsr j, s.ia + 6, s.jumpAddr j), (.lbsr rrrr, s.ia + 6, s.ia + 6 + BitVec.ofInt 20 rrrr.toInt),
        (.bsr rr, s.ia + 4, s.ia + 4 + BitVec.ofInt 20 rr.toInt)] : List (Instr × Addr × Addr)),
      s.executing = true → s.frameWritable = true → Completes e.1 s fun t =>
        t.ia = evenAddr e.2.2 ∧ FrameStacked s t e.2.1 ∧
        RegsBecome { s.reg with sk := t.reg.sk, sp := t.reg.sp } t ∧ CcrKept [] s t ∧ t.mac = s.mac ∧
        ControlKept s t ∧ OutsideKept s t)

/-- RTS pulls PK, from the low bits of the CCR word, and PC, subtracts 2, and keeps the rest of the CCR; after a call it
comes back to the instruction that follows the call. That an odd target is made even is the spec's decision D4 (log
entry 10). -/
def Obligations.ReturnsFromCall : Prop :=
  (∀ s : State, s.executing = true → s.readableFrom (s.sksp + 2) 4 = true → Completes .rts s fun t =>
    t.ia = evenAddr (pair (nib0 (s.dataWord (s.sksp + 2))) (s.dataWord (s.sksp + 4)) - 2) ∧
    RegsBecome (s.reg.withS (s.sksp + 4)) t ∧ CcrKept [] s t ∧ t.mac = s.mac ∧ ControlKept s t ∧ DataKept s t ∧
    OutsideKept s t) ∧
  (∀ (s : State) (j : JumpTarget) (rr : BitVec 8) (rrrr : BitVec 16), s.executing = true → s.frameWritable = true →
    s.pcEven = true → ∀ i ∈ [Instr.jsr j, .lbsr rrrr, .bsr rr],
      ∃ t u, exec i s = .next t ∧ exec .rts t = .next u ∧ u.ia = s.ia + BitVec.ofNat 20 i.length ∧
        RegsBecome s.reg u ∧ CcrKept [] s u)

/-- SWI takes its exception: vector 6, stacked IA + 8, IP unchanged, the frame of four bytes, the handler in bank 0, the
inhibit, and the BKPT latch where BKPT is asserted at one of its operand cycles; nothing else changes. That an odd vector
is made even is the spec's decision D4 (log entry 10). -/
def Obligations.SoftwareInterrupt : Prop :=
  ∀ s : State, s.executing = true → s.exceptionReady 6 = true → Completes .swi s fun t =>
    ExceptionTaken s t (s.ia + 8) 6 [] ∧ ControlHandler s 6 s.ctl t

/-- RTI restores the whole CCR and PK : PC minus 6, SK : SP moves up by 4; after SWI it comes back to the instruction
that follows SWI with every register as before. That an odd target is made even is the spec's decision D4 (log
entry 10). -/
def Obligations.ReturnsFromException : Prop :=
  (∀ s : State, s.executing = true → s.readableFrom (s.sksp + 2) 4 = true → Completes .rti s fun t =>
    let c := s.dataWord (s.sksp + 2)
    t.ia = evenAddr (pair (nib0 c) (s.dataWord (s.sksp + 4)) - 6) ∧
    RegsBecome (s.reg.withS (s.sksp + 4)) t ∧ (∀ k, 4 ≤ k → k < 16 → t.reg.ccr.getLsbD k = c.getLsbD k) ∧
    t.mac = s.mac ∧ t.ctl = { s.ctl with nmiLatch := nmiAfter s t, bkptLatch := t.ctl.bkptLatch } ∧ DataKept s t ∧
    OutsideKept s t) ∧
  (∀ s : State, s.executing = true → s.exceptionReady 6 = true → s.pcEven = true →
    ∃ t u, exec .swi s = .next t ∧ exec .rti t = .next u ∧ u.ia = s.ia + 2 ∧ RegsBecome s.reg u ∧ CcrKept [] s u)

/-! ### Index registers, stack, CCR -/

/-- Additions to the 20-bit index and stack pointers; only AIX, AIY, AIZ set Z, from the 16-bit register. -/
def Obligations.PointerAdditions : Prop :=
  ∀ (s : State) (v : Imm),
    let r := s.reg
    let b := BitVec.ofNat 20 r.b.toNat
    let d := BitVec.ofInt 20 s.d.toInt
    let e := BitVec.ofInt 20 r.e.toInt
    let i := BitVec.ofInt 20 (match v with
      | .i8 ii => ii.toInt
      | .i16 jjkk => jjkk.toInt)
    Computes .abx s (r.withX (s.xkix + b)) [] anyFlags ∧ Computes .aby s (r.withY (s.ykiy + b)) [] anyFlags ∧
    Computes .abz s (r.withZ (s.zkiz + b)) [] anyFlags ∧ Computes .adx s (r.withX (s.xkix + d)) [] anyFlags ∧
    Computes .ady s (r.withY (s.ykiy + d)) [] anyFlags ∧ Computes .adz s (r.withZ (s.zkiz + d)) [] anyFlags ∧
    Computes .aex s (r.withX (s.xkix + e)) [] anyFlags ∧ Computes .aey s (r.withY (s.ykiy + e)) [] anyFlags ∧
    Computes .aez s (r.withZ (s.zkiz + e)) [] anyFlags ∧
    Computes (.aix v) s (r.withX (s.xkix + i)) [10] (fun f => flagZ f = decide (offset (s.xkix + i) = 0)) ∧
    Computes (.aiy v) s (r.withY (s.ykiy + i)) [10] (fun f => flagZ f = decide (offset (s.ykiy + i) = 0)) ∧
    Computes (.aiz v) s (r.withZ (s.zkiz + i)) [10] (fun f => flagZ f = decide (offset (s.zkiz + i) = 0)) ∧
    Computes (.ais v) s (r.withS (s.sksp + i)) [] anyFlags

/-- Transfers among the 20-bit pointers (the stack pointer with its bias of 2), exchanges with D and E, and transfers of
the extension fields through B. -/
def Obligations.IndexTransfers : Prop :=
  ∀ s : State,
    let r := s.reg
    ∀ e ∈ [(Instr.tsx, r.withX (s.sksp + 2)), (.tsy, r.withY (s.sksp + 2)), (.tsz, r.withZ (s.sksp + 2)),
      (.txs, r.withS (s.xkix - 2)), (.tys, r.withS (s.ykiy - 2)), (.tzs, r.withS (s.zkiz - 2)),
      (.txy, r.withY s.xkix), (.txz, r.withZ s.xkix), (.tyx, r.withX s.ykiy), (.tyz, r.withZ s.ykiy),
      (.tzx, r.withX s.zkiz), (.tzy, r.withY s.zkiz),
      (.xgdx, { (r.withD r.ix) with ix := s.d }), (.xgdy, { (r.withD r.iy) with iy := s.d }),
      (.xgdz, { (r.withD r.iz) with iz := s.d }), (.xgex, { r with e := r.ix, ix := r.e }),
      (.xgey, { r with e := r.iy, iy := r.e }), (.xgez, { r with e := r.iz, iz := r.e }),
      (.tbek, { r with ek := BitVec.ofNat 4 r.b.toNat }), (.tbsk, { r with sk := BitVec.ofNat 4 r.b.toNat }),
      (.tbxk, { r with xk := BitVec.ofNat 4 r.b.toNat }), (.tbyk, { r with yk := BitVec.ofNat 4 r.b.toNat }),
      (.tbzk, { r with zk := BitVec.ofNat 4 r.b.toNat }),
      (.tekb, { r with b := BitVec.ofNat 8 r.ek.toNat }), (.tskb, { r with b := BitVec.ofNat 8 r.sk.toNat }),
      (.txkb, { r with b := BitVec.ofNat 8 r.xk.toNat }), (.tykb, { r with b := BitVec.ofNat 8 r.yk.toNat }),
      (.tzkb, { r with b := BitVec.ofNat 8 r.zk.toNat })],
      Computes e.1 s e.2 [] anyFlags

/-- The stack primitives in RAM: a word lies at SK : SP with its high byte first, a byte one above SK : SP. -/
def Obligations.StackPrimitives : Prop :=
  ∀ s : State, s.executing = true →
    (∀ v : Word, StoresWord s (s.push16 v) s.sksp v ∧ (s.push16 v).sksp = s.sksp - 2) ∧
    (∀ v : Byte, StoresByte s (s.push8 v) (s.sksp + 1) v ∧ (s.push8 v).sksp = s.sksp - 1) ∧
    ((s.pull16).2.sksp = s.sksp + 2 ∧ DataKept s (s.pull16).2 ∧
      (s.readableFrom (s.sksp + 2) 2 = true → (s.pull16).1 = s.dataWord (s.sksp + 2))) ∧
    ((s.pull8).2.sksp = s.sksp + 1 ∧ DataKept s (s.pull8).2 ∧
      (s.readable (s.sksp + 2) = true → (s.pull8).1 = s.dataByte (s.sksp + 2)))

/-- PSHA, PSHB, PULA, PULB. -/
def Obligations.PushPullBytes : Prop :=
  ∀ s : State,
    WritesByte .psha s (s.reg.withS (s.sksp - 1)) [] anyFlags (s.sksp + 1) s.reg.a ∧
    WritesByte .pshb s (s.reg.withS (s.sksp - 1)) [] anyFlags (s.sksp + 1) s.reg.b ∧
    ReadsInto .pula s { (s.reg.withS (s.sksp + 1)) with a := s.byteAt (s.sksp + 2) } [] anyFlags ∧
    ReadsInto .pulb s { (s.reg.withS (s.sksp + 1)) with b := s.byteAt (s.sksp + 2) } [] anyFlags

/-- PSHM: the selected registers in the order D, E, IX, IY, IZ, K, CCR, downwards from SK : SP. That bit 7 selects
nothing more is the spec's decision D20 (log entry 22). -/
def Obligations.PushesMultiple : Prop :=
  ∀ (s : State) (mask : BitVec 8), s.executing = true →
    let ws := ([(0, s.d), (1, s.reg.e), (2, s.reg.ix), (3, s.reg.iy), (4, s.reg.iz), (5, s.k), (6, s.reg.ccr)] :
      List (Nat × Word)).filterMap fun e => if mask.getLsbD e.1 then some e.2 else none
    Completes (.pshm mask) s fun t =>
      RegsBecome (s.reg.withS (s.sksp - BitVec.ofNat 20 (2 * ws.length))) t ∧ Advanced (.pshm mask) s t ∧
      CcrKept [] s t ∧ t.mac = s.mac ∧ ControlKept s t ∧ OutsideKept s t ∧ StoresCells s t (stackCells s.sksp ws)

/-- PULM: the selected registers in the order CCR, K, IZ, IY, IX, E, D, upwards from SK : SP + 2; PK stays. Bit 7 and the
word read beyond the last are the spec's decisions D20 and D21 (log entry 22). -/
def Obligations.PullsMultiple : Prop :=
  ∀ (s : State) (mask : BitVec 8), s.executing = true → s.readableFrom (s.sksp + 2) 16 = true →
    let count := fun k : Nat => ((List.range k).filter fun j => mask.getLsbD j).length
    let at' := fun k : Nat => s.dataWord (s.sksp + BitVec.ofNat 20 (2 * count k + 2))
    let pick := fun (k : Nat) (old : Word) => if mask.getLsbD k then at' k else old
    let k := pick 1 s.k
    Completes (.pulm mask) s fun t =>
      RegsBecome { ((s.reg.withS (s.sksp + BitVec.ofNat 20 (2 * count 7))).withED (pick 5 s.reg.e) (pick 6 s.d)) with
        ek := BitVec.extractLsb' 12 4 k, xk := BitVec.extractLsb' 8 4 k, yk := BitVec.extractLsb' 4 4 k,
        zk := BitVec.extractLsb' 0 4 k, iz := pick 2 s.reg.iz, iy := pick 3 s.reg.iy, ix := pick 4 s.reg.ix } t ∧
      Advanced (.pulm mask) s t ∧
      (∀ n, 4 ≤ n → n < 16 → t.reg.ccr.getLsbD n = (pick 0 s.reg.ccr).getLsbD n) ∧ t.mac = s.mac ∧
      t.ctl = { s.ctl with nmiLatch := nmiAfter s t, bkptLatch := t.ctl.bkptLatch } ∧ DataKept s t ∧ OutsideKept s t

/-- ANDP, ORP, TAP, TDP write their part of the CCR and set the interrupt inhibit; TPA and TPD read it. -/
def Obligations.ConditionCodeTransfers : Prop :=
  ∀ (s : State) (jjkk : BitVec 16),
    let c := s.reg.ccr
    (∀ e ∈ ([(.andp jjkk, c &&& jjkk), (.orp jjkk, c ||| jjkk), (.tdp, s.d),
        (.tap, word s.reg.a (lo c))] : List (Instr × Word)),
      Completes e.1 s fun t =>
        RegsBecome s.reg t ∧ Advanced e.1 s t ∧ (∀ k, 4 ≤ k → k < 16 → t.reg.ccr.getLsbD k = e.2.getLsbD k) ∧
        t.mac = s.mac ∧ t.ctl = { s.ctl with inhibit := true, nmiLatch := nmiAfter s t } ∧ DataKept s t ∧
        OutsideKept s t) ∧
    Computes .tpa s { s.reg with a := hi c } [] anyFlags ∧ Computes .tpd s (s.reg.withD c) [] anyFlags

/-- NOP and LPSTOP with S set only go on; LPSTOP with S clear stops and passes IP on; WAI waits; BGND enters background
mode when it is enabled and else takes the illegal instruction exception. That BGND leaves PK : PC = IA + 8 is the
spec's decision D25 (log entry 30), and that an odd vector is made even its decision D4 (log entry 10). -/
def Obligations.StopWaitAndBackground : Prop :=
  ∀ s : State,
    let only := fun (i : Instr) (c : Control) => Completes i s fun t =>
      RegsBecome s.reg t ∧ Advanced i s t ∧ CcrKept [] s t ∧ t.mac = s.mac ∧ t.ctl = c ∧ DataKept s t ∧
      OutsideKept s t
    Computes .nop s s.reg [] anyFlags ∧ (flagS s.reg.ccr = true → only .lpstop s.ctl) ∧
    (flagS s.reg.ccr = false → only .lpstop { s.ctl with run := .stopped, ebiIP := fieldIP s.reg.ccr }) ∧
    only .wai { s.ctl with run := .waiting } ∧
    (s.ctl.bdmFlag = true → only .bgnd { s.ctl with run := .background }) ∧
    (s.ctl.bdmFlag = false → s.executing = true → s.exceptionReady 7 = true → Completes .bgnd s fun t =>
      ExceptionTaken s t (s.ia + 8) 7 [] ∧ ControlHandler s 7 s.ctl t)

/-! ### MAC unit -/

/-- Loads and transfers of the MAC unit without arithmetic. -/
def Obligations.MacTransfers : Prop :=
  ∀ s : State,
    let am := s.mac.am
    let cleared := fun f => flagMV f = false ∧ flagEV f = false
    ComputesMac .tdmsk s s.reg { s.mac with xmsk := s.reg.a, ymsk := s.reg.b } [] anyFlags ∧
    ComputesMac .tem s s.reg { s.mac with am := BitVec.ofInt 36 (s.reg.e.toInt * 2 ^ 16) } [14, 12] cleared ∧
    ComputesMac .tedm s s.reg { s.mac with am := BitVec.ofInt 36 s.ed.toInt } [14, 12] cleared ∧
    ComputesMac .clrm s s.reg { s.mac with am := 0 } [14, 12] cleared ∧
    ComputesMac .tmxed s { (s.reg.withED (BitVec.extractLsb' 16 16 am) (BitVec.extractLsb' 0 16 am)) with
      ix := BitVec.ofInt 16 (BitVec.extractLsb' 32 4 am).toInt } s.mac [] anyFlags ∧
    (s.executing = true → Completes .ldhi s fun t =>
      RegsBecome s.reg t ∧ Advanced .ldhi s t ∧ CcrKept [] s t ∧ t.mac = { s.mac with hr := t.mac.hr, ir := t.mac.ir } ∧
      (s.readableFrom s.xkix 2 = true → s.readableFrom s.ykiy 2 = true →
        t.mac.hr = s.dataWord s.xkix ∧ t.mac.ir = s.dataWord s.ykiy) ∧
      ControlKept s t ∧ DataKept s t ∧ OutsideKept s t)

/-- ACE, ACED, ASLM and ASRM: AM, EV, MV and SL by the exact value, C and N for the shifts. -/
def Obligations.AccumulatorArithmetic : Prop :=
  ∀ s : State,
    let am := s.mac.am
    let kept := fun t : State => RegsBecome s.reg t ∧ t.mac = { s.mac with am := t.mac.am, sl := t.mac.sl } ∧
      t.ctl = s.ctl ∧ DataKept s t ∧ OutsideKept s t
    (∀ e ∈ [(Instr.ace, s.reg.e.toInt * 2 ^ 16), (.aced, s.ed.toInt)], Completes e.1 s fun t =>
      Accumulated s t (am.toInt + e.2) ∧ CcrKept [14, 12] s t ∧ Advanced e.1 s t ∧ kept t) ∧
    (Completes .aslm s fun t =>
      Accumulated s t (2 * am.toInt) ∧ flagN t.reg.ccr = t.mac.am.getLsbD 35 ∧ flagC t.reg.ccr = am.getLsbD 35 ∧
      CcrKept [14, 12, 11, 8] s t ∧ Advanced .aslm s t ∧ kept t) ∧
    (Completes .asrm s fun t =>
      Accumulated s t (am.toInt / 2) ∧ flagN t.reg.ccr = am.getLsbD 35 ∧ flagC t.reg.ccr = am.getLsbD 0 ∧
      CcrKept [12, 11, 8] s t ∧ Advanced .asrm s t ∧ kept t)

/-- TMER rounds AM to its upper bits, half to even, sets EV and MV but never clears them, and saturates; TMET truncates
and saturates. AM stays. That TMER never clears EV is the spec's decision D24 (log entry 29). -/
def Obligations.TransfersRounded : Prop :=
  ∀ s : State,
    let am := s.mac.am
    let low := am.toNat % 2 ^ 16
    let up := decide (2 ^ 15 < low) || decide (low = 2 ^ 15) && am.getLsbD 16
    let exact : Int := am.toInt + (if up then 2 ^ 16 else 0)
    let temp : BitVec 36 := BitVec.ofInt 36 exact
    let overflow := decide (2 ^ 35 ≤ exact)
    let result := fun (f : Word) (sl : Bool) (v : Word) =>
      if flagSM f && (flagEV f || flagMV f) then saturation (flagMV f) sl (am.getLsbD 35) else v
    (Completes .tmer s fun t =>
      let f := t.reg.ccr
      let e := result f t.mac.sl (BitVec.extractLsb' 16 16 temp)
      RegsBecome { s.reg with e := e } t ∧ NZOf e f ∧
      flagMV f = (flagMV s.reg.ccr || overflow) ∧
      flagEV f = (flagEV s.reg.ccr || decide (temp.toInt < -2 ^ 31 ∨ 2 ^ 31 ≤ temp.toInt)) ∧
      t.mac = { s.mac with sl := if overflow && !flagMV s.reg.ccr then true else s.mac.sl } ∧
      CcrKept [14, 12, 11, 10] s t ∧ Advanced .tmer s t ∧ t.ctl = s.ctl ∧ DataKept s t ∧ OutsideKept s t) ∧
    (let e := result s.reg.ccr s.mac.sl (BitVec.extractLsb' 16 16 am)
     Computes .tmet s { s.reg with e := e } [11, 10] (NZOf e))

/-- MAC: the fractional product in E : D and added to AM, IX and IY moved in their buffers, IZ the old HR, HR and IR
loaded from the new addresses; V only for -1 times -1. IX after a mask that is not right-justified is not claimed. -/
def Obligations.MultiplyAccumulate : Prop :=
  ∀ (s : State) (xo yo : BitVec 4),
    let product : Int := s.mac.hr.toInt * s.mac.ir.toInt * 2
    let p := BitVec.ofInt 32 product
    s.executing = true → Completes (.mac xo yo) s fun t =>
      Accumulated s t (s.mac.am.toInt + product) ∧
      RegsBecome { (s.reg.withED (hiWord p) (loWord p)) with ix := t.reg.ix, iy := t.reg.iy, iz := s.mac.hr } t ∧
      BuffersMoved s t xo yo ∧ flagV t.reg.ccr = decide (s.mac.hr = 0x8000 ∧ s.mac.ir = 0x8000) ∧
      CcrKept [14, 12, 9] s t ∧ Advanced (.mac xo yo) s t ∧ ControlKept s t ∧ DataKept s t ∧ OutsideKept s t

/-- One iteration of RMAC: as MAC, but E : D, IZ and V do not take the product; while the count is then not negative
PK : PC stays at the instruction, and at the end E is not claimed. One iteration a step is the reading that R679 (b)
gives (log entry 27). -/
def Obligations.RepeatingMultiplyAccumulate : Prop :=
  ∀ (s : State) (xo yo : BitVec 4),
    let product : Int := s.mac.hr.toInt * s.mac.ir.toInt * 2
    let again := decide (0 ≤ (s.reg.e - 1).toInt)
    s.executing = true → Completes (.rmac xo yo) s fun t =>
      Accumulated s t (s.mac.am.toInt + product) ∧
      RegsBecome { s.reg with ix := t.reg.ix, iy := t.reg.iy, e := t.reg.e, a := t.reg.a, b := t.reg.b } t ∧
      BuffersMoved s t xo yo ∧
      (again = true → t.reg.e = s.reg.e - 1 ∧ t.pkpc = s.pkpc) ∧ (again = false → Advanced (.rmac xo yo) s t) ∧
      CcrKept [14, 12] s t ∧ ControlKept s t ∧ DataKept s t ∧ OutsideKept s t

/-- PSHMAC stacks the MAC unit's registers, PULMAC takes them back. That the reserved bits are stored as 0 is the
spec's decision D23 (log entry 28). -/
def Obligations.MacStacking : Prop :=
  ∀ s : State, s.executing = true →
    let am := s.mac.am
    let w := fun k : Nat => s.dataWord (s.sksp + BitVec.ofNat 20 k)
    (Completes .pshmac s fun t =>
      RegsBecome (s.reg.withS (s.sksp - 12)) t ∧ Advanced .pshmac s t ∧ CcrKept [] s t ∧ t.mac = s.mac ∧
      ControlKept s t ∧ OutsideKept s t ∧
      StoresCells s t (stackCells s.sksp [s.mac.hr, s.mac.ir, BitVec.extractLsb' 0 16 am, BitVec.extractLsb' 16 16 am,
        BitVec.ofNat 16 (2 ^ 15 * s.mac.sl.toNat + am.toNat / 2 ^ 32), word s.mac.xmsk s.mac.ymsk])) ∧
    (s.readableFrom (s.sksp + 2) 12 = true → Completes .pulmac s fun t =>
      RegsBecome (s.reg.withS (s.sksp + 12)) t ∧ Advanced .pulmac s t ∧ CcrKept [] s t ∧
      t.mac = { xmsk := hi (w 2), ymsk := lo (w 2), sl := (w 4).getLsbD 15, am := nib0 (w 4) ++ w 6 ++ w 8,
                ir := w 10, hr := w 12 } ∧
      ControlKept s t ∧ DataKept s t ∧ OutsideKept s t)

/-! ### Interrupts, bus errors, run states -/

/-- The level recognised is the highest whose line is asserted and that the mask, or for level 7 the latch, lets in. That
an asserted level 7 without its latch hides no lower level is the model's reading (log entry 46). A change of the lines
and of the addresses at which BKPT is asserted acts before the step of the run state (log entry 34); an IRQ7 that becomes
asserted sets the edge latch. -/
def Obligations.InterruptRecognition : Prop :=
  (∀ (s : State) (ip l : BitVec 3),
    s.pendingLevel ip = some l ↔ s.recognisable ip l = true ∧ ∀ k, s.recognisable ip k = true → k ≤ l) ∧
  (∀ (s : State) (q : IrqLines) (data prog : List (Nat × Nat)) (rest : List Input),
    let latched := { s.ctl with nmiLatch := s.ctl.nmiLatch || (q.irq7 && !s.plat.irq.irq7) }
    (s.plat.inputs = .lines q :: rest →
      step s = { s with ctl := latched, plat := { s.plat with inputs := rest, irq := q } }.stepRun) ∧
    (s.plat.inputs = .bkpt q data prog :: rest →
      step s = { s with ctl := latched, plat := { s.plat with
        inputs := rest, irq := q, dataBkpt := data, progBkpt := prog } }.stepRun))

/-- A recognised interrupt is taken at the boundary, also from the waiting and stopped states: the CCR is stacked with
the old IP, IP becomes the level, the vector is what the acknowledge cycle gives. The pipeline state signals say
EXCEPTION first, with the FETCH of the prefetch that comes before, and then refill the pipeline. That this prefetch reads
the word at IA + 4 and that its BERR is latched is the model's reading of 60_exceptions.md R812 (log entry 53); inside the
double-bus-fault window, which is open right after a reset, its BERR is a double bus fault, with the registers as in log
entry 38 (93_implementation_defined.md U16), while a BERR of the acknowledge cycle gives vector $18 there too (log
entry 48). What wakes a stopped processor is the
platform's `STOP_WAKE`: the spec's default D30, or a set of levels (log entry 50); the place of the signals is the model's
reading (log entry 40). That an odd vector is made even is the spec's decision D4 (log entry 10). -/
def Obligations.InterruptTaken : Prop :=
  ∀ (s : State) (l : BitVec 3) (r : IackResponse), s.plat.inputs = [] →
    s.plat.iack[l.toNat - 1]? = some r → s.exceptionReady (vectorOf l r) = true →
    (s.ctl.run = .running ∧ s.ctl.berrLatch = false ∧ s.ctl.bkptLatch = false ∧ s.ctl.inhibit = false ∧
        s.pendingLevel (fieldIP s.reg.ccr) = some l ∨
      s.ctl.run = .waiting ∧ s.pendingLevel (fieldIP s.reg.ccr) = some l ∨
      s.ctl.run = .stopped ∧ s.plat.stopWake = .aboveCopy ∧ s.pendingLevel s.ctl.ebiIP = some l ∨
      s.ctl.run = .stopped ∧ (∃ m, s.plat.stopWake = .levels m ∧ s.plat.irq.meets m = true) ∧
        s.pendingLevel (fieldIP s.reg.ccr) = some l) →
    let a := s.ia + 4
    (s.executing = true ∨ s.fetchFails a = false →
      ∃ t, step s = .next t ∧ ExceptionTaken s t (s.ia + 6) (vectorOf l r) [5, 6, 7] ∧ fieldIP t.reg.ccr = l ∧
        ControlHandler s (vectorOf l r) { s.ctl with
          run := .running, nmiLatch := s.ctl.nmiLatch && decide (l ≠ 7),
          berrLatch := s.ctl.berrLatch || s.fetchFails a } t ∧
        ∃ k : PipeCycle, s.pipeCycles = k :: t.refillCycles ∧ k.one = .fetch ∧ k.two = .exception ∧
          ((s.fetchable a || s.fetchFails a) = true → k.bus = some (s.fetchedWord a))) ∧
    (s.executing = false → s.fetchFails a = true → ∃ t, step s = .next t ∧ DoubleBusFaulted s t s.ctl)

/-- With no input to come, a waiting or stopped processor without a recognised request stays as it is and drives no
pipeline state signal, and a halted one is stuck. That the halted state is a fault of the model is its choice (log entry
33), and so are the values of `STOP_WAKE` other than the spec's default D30 (log entry 50); under each of them a stopped
processor stays stopped until an interrupt is recognised. -/
def Obligations.IdleStates : Prop :=
  ∀ s : State, s.plat.inputs = [] →
    (s.ctl.run = .waiting → s.pendingLevel (fieldIP s.reg.ccr) = none → step s = .next s ∧ s.pipeCycles = []) ∧
    (s.ctl.run = .stopped →
      (s.plat.stopWake = .aboveCopy → s.pendingLevel s.ctl.ebiIP = none → step s = .next s ∧ s.pipeCycles = []) ∧
      (∀ m, s.plat.stopWake = .levels m →
        s.plat.irq.meets m = false ∨ s.pendingLevel (fieldIP s.reg.ccr) = none → step s = .next s ∧ s.pipeCycles = [])) ∧
    (s.ctl.run = .halted → step s = .fault .halted)

/-- A latched bus error is taken at the next boundary, before anything else but reset: vector 5, stacked IA + 6; the
latch stays set and the window opens. That it is taken at this boundary is the spec's decision D7 of
92_eei_decisions.md (60_exceptions.md R730, log entry 8): the manual says that the delay cannot be predicted. A latched
breakpoint comes next: vector 4 after a breakpoint acknowledge cycle, or background mode without one. The order is the
spec's decision D10 (log entry 31). That the acknowledge cycle is a notification without a result is its decision D31,
and that the model counts it in the platform is the model's choice (log entry 39). Before either exception one more word is
read, at IA + 4, whose BERR is latched, or in the window a double bus fault, with the registers as in log entry 38
(93_implementation_defined.md U16): the model's reading of 60_exceptions.md R812 (log entry 53). That an odd vector is made even is the
spec's decision D4 (log entry 10). -/
def Obligations.BusErrorAndBreakpointTaken : Prop :=
  ∀ s : State, s.plat.inputs = [] → s.ctl.run = .running →
    (s.ctl.berrLatch = true → s.executing = true → s.exceptionReady 5 = true →
      ∃ t, step s = .next t ∧ ExceptionTaken s t (s.ia + 6) 5 [] ∧ ControlHandler s 5 { s.ctl with berrWindow := true } t) ∧
    (s.ctl.bkptLatch = true → (s.ctl.berrLatch = false ∨ s.ctl.berrWindow = true) →
      (s.ctl.bdmFlag = false → s.exceptionReady 4 = true → s.executing = true ∨ s.fetchFails (s.ia + 4) = false →
        ∃ t, step s = .next t ∧
          ExceptionTaken { s with plat := { s.plat with bkptAcks := s.plat.bkptAcks + 1 } } t (s.ia + 6) 4 [] ∧
          ControlHandler s 4 { s.ctl with
            bkptLatch := false, berrLatch := s.ctl.berrLatch || s.fetchFails (s.ia + 4) } t) ∧
      (s.ctl.bdmFlag = false → s.executing = false → s.fetchFails (s.ia + 4) = true →
        ∃ t, step s = .next t ∧ DoubleBusFaulted s t { s.ctl with bkptLatch := false }) ∧
      (s.ctl.bdmFlag = true →
        step s = .next { s with ctl := { s.ctl with bkptLatch := false, run := .background } }))

/-- Commands of the development system in background mode: nothing to do, RREGM, WREGM with any mask, RPCSP, WPCSP, RDMEM
and WDMEM of a byte, a word and a long word, RPMEM, WPMEM, GO, NOP, RDMAC, WRMAC, an unassigned word; the replies are
17-bit words, NOT READY for each extension word first. The operation words of all but RPCSP, WDMEM and WPMEM are from
general knowledge (log entry 37), and that GO leaves no reply is the model's choice (log entry 51). That WPCSP clears bit
0 of PC is the spec's decision D4 (10_state.md R43, log entry 10). -/
def Obligations.BackgroundCommands : Prop :=
  ∀ s : State, s.plat.inputs = [] → s.ctl.run = .background →
    let data := fun w : Word => (0#1 ++ w : BitVec 17)
    let wait := fun n : Nat => List.replicate n (0x10000 : BitVec 17)
    let am := s.mac.am
    (s.plat.bdmIn = [] → step s = .next s) ∧
    (∀ (mask : Word) (ws : List Word), s.plat.bdmIn = 0x1780 :: mask :: ws → ∃ (t : State) (x : Ext), step s = .next t ∧
      Commanded s t s.reg s.mac ws (wait 1 ++ (([(0, BitVec.extractLsb' 4 12 s.reg.ccr ++ x), (1, s.k), (2, s.reg.iz), (3, s.reg.iy),
        (4, s.reg.ix), (5, s.reg.e), (6, s.d)] : List (Nat × Word)).filterMap fun e =>
          if mask.getLsbD e.1 then some (data e.2) else none) ++ [0x0FFFF])) ∧
    (∀ (mask : Word) (vs ws : List Word),
      let count := fun k => (List.range k).countP fun j => mask.getLsbD j
      let pick := fun (k : Nat) (old : Word) => if mask.getLsbD k then vs.getD (count k) 0 else old
      let k := pick 1 s.k
      vs.length = count 7 → s.plat.bdmIn = 0x1781 :: mask :: (vs ++ ws) → ∃ t, step s = .next t ∧
      t.reg = { (s.reg.withED (pick 5 s.reg.e) (pick 6 s.d)) with
        ccr := withPK s.pk (pick 0 s.reg.ccr), ek := BitVec.extractLsb' 12 4 k, xk := BitVec.extractLsb' 8 4 k,
        yk := BitVec.extractLsb' 4 4 k, zk := BitVec.extractLsb' 0 4 k, iz := pick 2 s.reg.iz, iy := pick 3 s.reg.iy,
        ix := pick 4 s.reg.ix } ∧
      t.mac = s.mac ∧ t.ctl = { s.ctl with nmiLatch := nmiAfter s t } ∧
      t.plat = { s.plat with bdmIn := ws, bdmOut := s.plat.bdmOut ++ (wait (count 7 + 1) ++ [0x0FFFF]) } ∧
      DataKept s t ∧ t.prog = s.prog) ∧
    (∀ ws : List Word, s.plat.bdmIn = 0x1782 :: ws → ∃ (t : State) (x y : BitVec 12), step s = .next t ∧
      Commanded s t s.reg s.mac ws
        [data (x ++ s.pk), data s.reg.pc, data (y ++ s.reg.sk), data s.reg.sp]) ∧
    (∀ (pk pc sk sp : Word) (ws : List Word), s.plat.bdmIn = 0x1783 :: pk :: pc :: sk :: sp :: ws →
      ∃ t, step s = .next t ∧ Commanded s t
        { s.reg with pc := pc &&& 0xFFFE, ccr := withPK (nib0 pk) s.reg.ccr, sk := nib0 sk, sp := sp } s.mac ws
        (wait 4 ++ [0x0FFFF])) ∧
    (∀ (z : BitVec 2) (x : BitVec 10) (b : Ext) (o : Word) (ws : List Word),
      s.plat.bdmIn = 0x1784 :: (z ++ x ++ b) :: o :: ws →
      let a := pair b o
      let n := if z = 0 then 1 else if z = 1 then 2 else 4
      s.readableFrom a n = true → ∃ t, step s = .next t ∧ Commanded s t s.reg s.mac ws (wait 2 ++
        if z = 0 then [data (word 0xFF (s.dataByte a))]
        else if z = 1 then [data (s.dataWord a)]
        else [data (s.dataWord a), data (s.dataWord (a + 2))])) ∧
    (∀ (z : BitVec 2) (x : BitVec 10) (b : Ext) (o v w : Word) (ws : List Word),
      let a := pair b o
      let extra := if z = 0 ∨ z = 1 then [] else [w]
      s.plat.bdmIn = 0x1785 :: (z ++ x ++ b) :: o :: v :: (extra ++ ws) → ∃ t, step s = .next t ∧
        t.reg = s.reg ∧ t.mac = s.mac ∧ t.ctl = s.ctl ∧
        t.plat = { s.plat with bdmIn := ws, bdmOut := s.plat.bdmOut ++ (wait (3 + extra.length) ++ [0x0FFFF]) } ∧
        t.prog = s.prog ∧
        StoresCells s t (if z = 0 then [(a, lo v)] else if z = 1 then [(a, hi v), (a + 1, lo v)]
          else [(a, hi v), (a + 1, lo v), (a + 2, hi w), (a + 3, lo w)])) ∧
    (∀ (x : BitVec 12) (b : Ext) (o : Word) (ws : List Word), s.plat.bdmIn = 0x1786 :: (x ++ b) :: o :: ws →
      s.fetchable (evenAddr (pair b o)) = true →
      ∃ t, step s = .next t ∧
        Commanded s t s.reg s.mac ws (wait 2 ++ [data (s.progWord (evenAddr (pair b o)))])) ∧
    (∀ (x : BitVec 12) (b : Ext) (o v : Word) (ws : List Word),
      s.plat.bdmIn = 0x1787 :: (x ++ b) :: o :: v :: ws →
      let a := evenAddr (pair b o)
      ∃ t, step s = .next t ∧ t.reg = s.reg ∧ t.mac = s.mac ∧ t.ctl = s.ctl ∧
        t.plat = { s.plat with bdmIn := ws, bdmOut := s.plat.bdmOut ++ (wait 3 ++ [0x0FFFF]) } ∧
        StoresProgWord s t (kindAt s.plat.progMap a.toNat == .ram) a v) ∧
    (∀ ws : List Word, s.plat.bdmIn = 0x1788 :: ws → ∃ t, step s = .next t ∧ t.reg = s.reg ∧ t.mac = s.mac ∧
      t.ctl = { s.ctl with run := .running } ∧ t.plat = { s.plat with bdmIn := ws } ∧ DataKept s t ∧ t.prog = s.prog) ∧
    (∀ ws : List Word, s.plat.bdmIn = 0x1789 :: ws →
      ∃ t, step s = .next t ∧ Commanded s t s.reg s.mac ws [0x0FFFF]) ∧
    (∀ ws : List Word, s.plat.bdmIn = 0x178A :: ws → ∃ (t : State) (x : BitVec 11), step s = .next t ∧
      Commanded s t s.reg s.mac ws [data s.mac.hr, data s.mac.ir, data (BitVec.extractLsb' 0 16 am),
        data (BitVec.extractLsb' 16 16 am), data (BitVec.ofBool s.mac.sl ++ x ++ BitVec.extractLsb' 32 4 am),
        data (word s.mac.xmsk s.mac.ymsk)]) ∧
    (∀ (masks sl amh aml ir hr : Word) (ws : List Word),
      s.plat.bdmIn = 0x178B :: masks :: sl :: amh :: aml :: ir :: hr :: ws → ∃ t, step s = .next t ∧
      Commanded s t s.reg
        { xmsk := hi masks, ymsk := lo masks, sl := sl.getLsbD 15, am := nib0 sl ++ amh ++ aml, ir := ir, hr := hr }
        ws (wait 6 ++ [0x0FFFF])) ∧
    (∀ (op : Word) (ws : List Word), s.plat.bdmIn = op :: ws → op.toNat < 0x1780 ∨ 0x178B < op.toNat →
      ∃ t, step s = .next t ∧ Commanded s t s.reg s.mac ws [0x1FFFF])
end

