-- ==== Sys2Proof/Laws/Memory.lean ====
section
/-! SUPPORT. Memory: a read after a write, and the canonical form that every write keeps. -/

namespace Sys2Proof.Machine

theorem Memory.read_erase (m : Memory) (a b : Nat) :
    Memory.read (Memory.erase m a) b = if b = a then 0 else Memory.read m b := by
  induction m with
  | nil => simp [Memory.erase, Memory.read]
  | cons e m ih =>
    obtain ⟨k, w⟩ := e
    simp only [Memory.erase, Memory.read]
    split <;> simp only [Memory.read, ih] <;> grind

theorem Memory.read_insert (m : Memory) (a : Nat) (v : Byte) (b : Nat) (h : Memory.read m a = 0 ∧ ∀ e ∈ m, e.1 ≠ a) :
    Memory.read (Memory.insert m a v) b = if b = a then v else Memory.read m b := by
  induction m with
  | nil => simp only [Memory.insert, Memory.read]; grind
  | cons e m ih =>
    obtain ⟨k, w⟩ := e
    have hk : k ≠ a := h.2 (k, w) (by simp)
    have hm : Memory.read m a = 0 ∧ ∀ e ∈ m, e.1 ≠ a :=
      ⟨by have := h.1; simp only [Memory.read, hk, if_false] at this; exact this,
       fun e he => h.2 e (by simp [he])⟩
    simp only [Memory.insert]
    split <;> simp only [Memory.read, ih hm] <;> grind

theorem Memory.erase_keys (m : Memory) (a : Nat) : ∀ e ∈ Memory.erase m a, e.1 ≠ a := by
  induction m with
  | nil => simp [Memory.erase]
  | cons e m ih =>
    obtain ⟨k, w⟩ := e
    simp only [Memory.erase]
    split
    · exact ih
    · intro e he
      rcases List.mem_cons.mp he with h | h
      · subst h; assumption
      · exact ih e h

/-- A byte read after one byte was written, in any memory. -/
theorem Memory.read_write (m : Memory) (a : Nat) (v : Byte) (b : Nat) :
    Memory.read (Memory.write m a v) b = if b = a then v else Memory.read m b := by
  unfold Memory.write
  split
  · rename_i h; rw [Memory.read_erase, h]
  · rw [Memory.read_insert _ _ _ _ ⟨by simp [Memory.read_erase], Memory.erase_keys m a⟩, Memory.read_erase]
    split <;> rfl

theorem Memory.wfFrom_mono (m : Memory) (l l' : Nat) (h : l' ≤ l) (hm : Memory.wfFrom l m = true) :
    Memory.wfFrom l' m = true := by
  cases m with
  | nil => rfl
  | cons e m =>
    obtain ⟨k, w⟩ := e
    simp only [Memory.wfFrom, Bool.and_eq_true, decide_eq_true_eq] at hm ⊢
    exact ⟨⟨⟨by omega, hm.1.1.2⟩, hm.1.2⟩, hm.2⟩

theorem Memory.wfFrom_erase (m : Memory) (l a : Nat) (hm : Memory.wfFrom l m = true) :
    Memory.wfFrom l (Memory.erase m a) = true := by
  induction m generalizing l with
  | nil => rfl
  | cons e m ih =>
    obtain ⟨k, w⟩ := e
    simp only [Memory.wfFrom, Bool.and_eq_true, decide_eq_true_eq] at hm
    simp only [Memory.erase]
    split
    · exact ih _ (Memory.wfFrom_mono m (k + 1) l (by omega) hm.2)
    · simp only [Memory.wfFrom, Bool.and_eq_true, decide_eq_true_eq]
      exact ⟨hm.1, ih _ hm.2⟩

theorem Memory.wfFrom_insert (m : Memory) (l a : Nat) (v : Byte) (hl : l ≤ a) (ha : a < 2 ^ 20) (hv : v ≠ 0)
    (hk : ∀ e ∈ m, e.1 ≠ a) (hm : Memory.wfFrom l m = true) : Memory.wfFrom l (Memory.insert m a v) = true := by
  induction m generalizing l with
  | nil =>
    simp only [Memory.insert, Memory.wfFrom, hl, ha, decide_true, Bool.true_and, Bool.and_true, decide_eq_true_eq]
    exact hv
  | cons e m ih =>
    obtain ⟨k, w⟩ := e
    have hne : k ≠ a := hk (k, w) (by simp)
    simp only [Memory.wfFrom, Bool.and_eq_true, decide_eq_true_eq] at hm
    simp only [Memory.insert]
    split
    · simp only [Memory.wfFrom, Bool.and_eq_true, decide_eq_true_eq]
      exact ⟨⟨⟨hl, ha⟩, hv⟩, ⟨⟨by omega, hm.1.1.2⟩, hm.1.2⟩, hm.2⟩
    · simp only [Memory.wfFrom, Bool.and_eq_true, decide_eq_true_eq]
      exact ⟨hm.1, ih (k + 1) (by omega) (fun e he => hk e (by simp [he])) hm.2⟩

/-- A write at a 20-bit address keeps the canonical form. -/
theorem Memory.wf_write (m : Memory) (a : Nat) (v : Byte) (ha : a < 2 ^ 20) (hm : Memory.wf m = true) :
    Memory.wf (Memory.write m a v) = true := by
  unfold Memory.wf Memory.write at *
  split
  · exact Memory.wfFrom_erase _ _ _ hm
  · rename_i hv
    exact Memory.wfFrom_insert _ _ _ _ (by omega) ha hv (Memory.erase_keys m a) (Memory.wfFrom_erase _ _ _ hm)

end Sys2Proof.Machine
end

