-- ==== Sys2Proof/Laws/Canonical.lean ====
section
/-! SUPPORT. Every memory operation keeps the canonical form of both memories. -/

namespace Sys2Proof.Machine

theorem State.memoryOk_congr {s t : State} (hm : t.mem = s.mem) (hp : t.prog = s.prog) :
    t.memoryOk = s.memoryOk := by
  simp [State.memoryOk, hm, hp]

/-- Writing one byte at a 20-bit address of data space. -/
theorem State.memoryOk_mem (s : State) (a : Nat) (v : Byte) (ha : a < 2 ^ 20) (h : s.memoryOk = true) :
    { s with mem := Memory.write s.mem a v }.memoryOk = true := by
  simp only [State.memoryOk, Bool.and_eq_true] at h ⊢
  exact ⟨Memory.wf_write _ _ _ ha h.1, h.2⟩

/-- Writing one byte at a 20-bit address of the separate program space. -/
theorem State.memoryOk_prog (s : State) (a : Nat) (v : Byte) (ha : a < 2 ^ 20) (h : s.memoryOk = true) :
    { s with prog := Memory.write s.prog a v }.memoryOk = true := by
  simp only [State.memoryOk, Bool.and_eq_true] at h ⊢
  exact ⟨h.1, Memory.wf_write _ _ _ ha h.2⟩

theorem State.memoryOk_noteOperand (s : State) (a : Addr) : (s.noteOperand a).memoryOk = s.memoryOk := by
  unfold State.noteOperand; split <;> rfl

theorem State.memoryOk_noteStale (s : State) (a : Addr) : (s.noteStale a).memoryOk = s.memoryOk := by
  unfold State.noteStale; split <;> rfl

theorem State.memoryOk_doubleBusFault (s : State) : s.doubleBusFault.memoryOk = s.memoryOk := by
  unfold State.doubleBusFault; split <;> rfl

theorem State.memoryOk_signalBusError (s : State) : s.signalBusError.memoryOk = s.memoryOk := by
  unfold State.signalBusError
  split
  · exact State.memoryOk_doubleBusFault s
  · rfl

theorem State.memoryOk_read8 (s : State) (a : Addr) : (s.read8 a).2.memoryOk = s.memoryOk := by
  unfold State.read8
  simp only
  split
  · exact State.memoryOk_noteOperand s a
  · exact State.memoryOk_noteOperand s a
  · exact State.memoryOk_noteOperand s a
  · exact State.memoryOk_noteOperand s a
  · rw [State.memoryOk_signalBusError]; exact State.memoryOk_noteOperand s a

theorem State.memoryOk_read16 (s : State) (a : Addr) : (s.read16 a).2.memoryOk = s.memoryOk := by
  simp only [State.read16, State.memoryOk_read8]

theorem State.memoryOk_progRead16 (s : State) (a : Addr) : (s.progRead16 a).2.memoryOk = s.memoryOk := by
  unfold State.progRead16
  split
  · rfl
  · rfl
  · rfl
  · rfl
  · exact State.memoryOk_signalBusError s

theorem State.memoryOk_write8 (s : State) (a : Addr) (v : Byte) (h : s.memoryOk = true) :
    (s.write8 a v).memoryOk = true := by
  have h0 : (s.noteOperand a).memoryOk = true := by rw [State.memoryOk_noteOperand]; exact h
  unfold State.write8
  simp only
  split
  · rw [State.memoryOk_noteStale]; exact State.memoryOk_mem _ _ _ a.isLt h0
  · exact h0
  · rw [State.memoryOk_signalBusError]; exact h0
  · exact h0
  · rw [State.memoryOk_signalBusError]; exact h0

theorem State.memoryOk_write16 (s : State) (a : Addr) (v : Word) (h : s.memoryOk = true) :
    (s.write16 a v).memoryOk = true :=
  State.memoryOk_write8 _ _ _ (State.memoryOk_write8 _ _ _ h)

theorem State.memoryOk_push16 (s : State) (v : Word) (h : s.memoryOk = true) : (s.push16 v).memoryOk = true :=
  State.memoryOk_write16 s s.sksp v h

theorem State.memoryOk_push8 (s : State) (v : Byte) (h : s.memoryOk = true) : (s.push8 v).memoryOk = true :=
  State.memoryOk_write8 s (s.sksp + 1) v h

theorem State.memoryOk_pull16 (s : State) : s.pull16.2.memoryOk = s.memoryOk :=
  State.memoryOk_read16 (s.setSksp (s.sksp + 2)) _

theorem State.memoryOk_pull8 (s : State) : s.pull8.2.memoryOk = s.memoryOk :=
  State.memoryOk_read8 s (s.sksp + 2)

/-- A conditional continuation keeps the form if the continuation does. -/
theorem State.memoryOk_whileAlive (s : State) (f : State → State)
    (hf : ∀ t, t.memoryOk = true → (f t).memoryOk = true) (h : s.memoryOk = true) :
    (s.whileAlive f).memoryOk = true := by
  unfold State.whileAlive; split
  · exact hf s h
  · exact h

theorem State.memoryOk_stackWord (s : State) (v : Word) (h : s.memoryOk = true) :
    (s.stackWord v).memoryOk = true := by
  refine State.memoryOk_whileAlive _ _ (fun t ht => ?_) (State.memoryOk_write8 _ _ _ h)
  exact State.memoryOk_whileAlive _ _ (fun u hu => hu) (State.memoryOk_write8 _ _ _ ht)

theorem State.memoryOk_enterHandler (s : State) (n : Byte) (h : s.memoryOk = true) :
    (s.enterHandler n).memoryOk = true := by
  refine State.memoryOk_whileAlive _ _ (fun t ht => ?_) (by rw [State.memoryOk_read8]; exact h)
  exact State.memoryOk_whileAlive _ _ (fun u hu => hu) (by rw [State.memoryOk_read8]; exact ht)

theorem State.memoryOk_maskForHandler (s : State) (l : Option (BitVec 3)) :
    (s.maskForHandler l).memoryOk = s.memoryOk := by
  unfold State.maskForHandler; split
  · rfl
  · simp only; split <;> rfl

/-- Taking an exception keeps the form. -/
theorem State.memoryOk_takeException (s : State) (r : Addr) (n : Byte) (l : Option (BitVec 3))
    (h : s.memoryOk = true) : (s.takeException r n l).memoryOk = true := by
  refine State.memoryOk_whileAlive _ _ (fun t ht => ?_) (State.memoryOk_stackWord _ _ h)
  refine State.memoryOk_whileAlive _ _ (fun u hu => ?_) (State.memoryOk_stackWord _ _ ht)
  exact State.memoryOk_enterHandler _ _ (by rw [State.memoryOk_maskForHandler]; exact hu)

theorem State.memoryOk_afterPrefetch (s : State) (f : State → State)
    (hf : ∀ t : State, t.memoryOk = true → (f t).memoryOk = true) (h : s.memoryOk = true) :
    (s.afterPrefetch f).memoryOk = true :=
  State.memoryOk_whileAlive _ f hf ((State.memoryOk_progRead16 s _).trans h)

theorem State.memoryOk_debugWrite8 (s : State) (a : Addr) (v : Byte) (h : s.memoryOk = true) :
    (s.debugWrite8 a v).memoryOk = true := by
  unfold State.debugWrite8; split
  · exact State.memoryOk_mem _ _ _ a.isLt h
  · exact h
  · exact h
  · exact h
  · exact h

theorem State.memoryOk_debugWrite16 (s : State) (a : Addr) (v : Word) (h : s.memoryOk = true) :
    (s.debugWrite16 a v).memoryOk = true :=
  State.memoryOk_debugWrite8 _ _ _ (State.memoryOk_debugWrite8 _ _ _ h)

theorem State.memoryOk_storeProg (s : State) (a : Nat) (v : Byte) (ha : a < 2 ^ 20) (h : s.memoryOk = true) :
    (s.storeProg a v).memoryOk = true := by
  unfold State.storeProg; split
  · exact State.memoryOk_prog _ _ _ ha h
  · exact State.memoryOk_mem _ _ _ ha h

theorem State.memoryOk_debugWriteProg (s : State) (a : Addr) (v : Word) (h : s.memoryOk = true) :
    (s.debugWriteProg a v).memoryOk = true := by
  unfold State.debugWriteProg
  simp only
  split
  · exact State.memoryOk_storeProg _ _ _ (BitVec.isLt _) (State.memoryOk_storeProg _ _ _ (BitVec.isLt _) h)
  · exact h
  · exact h
  · exact h
  · exact h

/-- Placing bytes keeps the form. -/
theorem State.memoryOk_placeBytes (bs : List Byte) (s : State) (a : Addr) (h : s.memoryOk = true) :
    (s.placeBytes a bs).memoryOk = true := by
  induction bs generalizing s a with
  | nil => exact h
  | cons b bs ih => exact ih _ _ (State.memoryOk_storeProg _ _ _ a.isLt h)

end Sys2Proof.Machine
end

