-- ==== Sys2Proof/Laws/Words.lean ====
section
/-! SUPPORT. Bytes, words, pairs and the fields of the CCR: reading back what was put together. -/

namespace Sys2Proof

@[simp] theorem hi_append (h l : Byte) : hi (h ++ l) = h := by
  apply BitVec.eq_of_getLsbD_eq; intro i hi
  simp only [Sys2Proof.hi, BitVec.getLsbD_append, BitVec.getLsbD_extractLsb']; grind

@[simp] theorem lo_append (h l : Byte) : lo (h ++ l) = l := by
  apply BitVec.eq_of_getLsbD_eq; intro i hi
  simp only [lo, BitVec.getLsbD_append, BitVec.getLsbD_extractLsb']; grind

@[simp] theorem hi_word (h l : Byte) : hi (word h l) = h := hi_append h l

@[simp] theorem lo_word (h l : Byte) : lo (word h l) = l := lo_append h l

@[simp] theorem word_hi_lo (w : Word) : word (hi w) (lo w) = w := by
  apply BitVec.eq_of_getLsbD_eq; intro i hi
  simp only [word, Sys2Proof.hi, lo, BitVec.getLsbD_append, BitVec.getLsbD_extractLsb']
  grind

namespace Machine

@[simp] theorem bank_pair (k : Ext) (r : Word) : bank (pair k r) = k := by
  apply BitVec.eq_of_getLsbD_eq; intro i hi
  simp only [bank, pair, BitVec.getLsbD_append, BitVec.getLsbD_extractLsb']; grind

@[simp] theorem offset_pair (k : Ext) (r : Word) : offset (pair k r) = r := by
  apply BitVec.eq_of_getLsbD_eq; intro i hi
  simp only [offset, pair, BitVec.getLsbD_append, BitVec.getLsbD_extractLsb']; grind

@[simp] theorem pair_bank_offset (a : Addr) : pair (bank a) (offset a) = a := by
  apply BitVec.eq_of_getLsbD_eq; intro i hi
  simp only [pair, bank, offset, BitVec.getLsbD_append, BitVec.getLsbD_extractLsb']
  grind

/-! ### CCR bits -/

/-- A bit of the CCR after one bit was replaced. -/
theorem getLsbD_withCcrBit (n : Nat) (hn : n < 16) (v : Bool) (c : Word) (k : Nat) :
    (withCcrBit n v c).getLsbD k = if k = n then v else c.getLsbD k := by
  by_cases hk : k < 16
  · cases v <;> by_cases h : k = n <;>
      simp [withCcrBit, bit, hk, h, hn] <;> grind
  · have h1 := BitVec.getLsbD_of_ge (withCcrBit n v c) k (by omega)
    have h2 := BitVec.getLsbD_of_ge c k (by omega)
    rw [h1, h2]; split <;> grind

theorem getLsbD_withPK (v : Ext) (c : Word) (k : Nat) :
    (withPK v c).getLsbD k = if k < 4 then v.getLsbD k else c.getLsbD k := by
  simp only [withPK, BitVec.getLsbD_append, BitVec.getLsbD_extractLsb']
  split
  · rfl
  · by_cases h : k < 16
    · grind
    · rw [BitVec.getLsbD_of_ge c k (by omega)]; grind

theorem getLsbD_withIP (l : BitVec 3) (c : Word) (k : Nat) :
    (withIP l c).getLsbD k = if 5 ≤ k ∧ k < 8 then l.getLsbD (k - 5) else c.getLsbD k := by
  simp only [withIP, BitVec.getLsbD_append, BitVec.getLsbD_extractLsb']
  by_cases h : k < 16
  · grind
  · rw [BitVec.getLsbD_of_ge c k (by omega)]; grind

theorem getLsbD_withUpper12 (v c : Word) (k : Nat) :
    (withUpper12 v c).getLsbD k = if k < 4 then c.getLsbD k else v.getLsbD k := by
  simp only [withUpper12, BitVec.getLsbD_append, BitVec.getLsbD_extractLsb']
  by_cases h : k < 16
  · grind
  · rw [BitVec.getLsbD_of_ge c k (by omega), BitVec.getLsbD_of_ge v k (by omega)]; grind

theorem getLsbD_withUpper8 (v : Byte) (c : Word) (k : Nat) :
    (withUpper8 v c).getLsbD k = if k < 8 then c.getLsbD k else v.getLsbD (k - 8) := by
  simp only [withUpper8, BitVec.getLsbD_append, BitVec.getLsbD_extractLsb']
  by_cases h : k < 16
  · grind
  · grind

@[simp] theorem fieldPK_withPK (v : Ext) (c : Word) : fieldPK (withPK v c) = v := by
  apply BitVec.eq_of_getLsbD_eq; intro i hi
  simp [fieldPK, getLsbD_withPK, hi]

@[simp] theorem withPK_fieldPK (c : Word) : withPK (fieldPK c) c = c := by
  apply BitVec.eq_of_getLsbD_eq; intro i hi
  simp only [fieldPK, BitVec.getLsbD_extractLsb', getLsbD_withPK]
  grind

@[simp] theorem withPK_withPK (u v : Ext) (c : Word) : withPK u (withPK v c) = withPK u c := by
  apply BitVec.eq_of_getLsbD_eq; intro i hi
  simp only [getLsbD_withPK]; grind

@[simp] theorem fieldIP_withIP (l : BitVec 3) (c : Word) : fieldIP (withIP l c) = l := by
  apply BitVec.eq_of_getLsbD_eq; intro i hi
  simp only [fieldIP, BitVec.getLsbD_extractLsb', getLsbD_withIP]
  grind

/-- Replacing a bit above PK keeps PK. -/
theorem fieldPK_withCcrBit (n : Nat) (h4 : 4 ≤ n) (hn : n < 16) (v : Bool) (c : Word) :
    fieldPK (withCcrBit n v c) = fieldPK c := by
  apply BitVec.eq_of_getLsbD_eq; intro i hi
  simp only [fieldPK, BitVec.getLsbD_extractLsb', getLsbD_withCcrBit n hn]
  grind

@[simp] theorem fieldPK_withIP (l : BitVec 3) (c : Word) : fieldPK (withIP l c) = fieldPK c := by
  apply BitVec.eq_of_getLsbD_eq; intro i hi
  simp only [fieldPK, BitVec.getLsbD_extractLsb', getLsbD_withIP]; grind

@[simp] theorem fieldIP_withPK (v : Ext) (c : Word) : fieldIP (withPK v c) = fieldIP c := by
  apply BitVec.eq_of_getLsbD_eq; intro i hi
  simp only [fieldIP, BitVec.getLsbD_extractLsb', getLsbD_withPK]; grind

/-- Replacing a bit above IP keeps IP. -/
theorem fieldIP_withCcrBit (n : Nat) (h8 : 8 ≤ n) (hn : n < 16) (v : Bool) (c : Word) :
    fieldIP (withCcrBit n v c) = fieldIP c := by
  apply BitVec.eq_of_getLsbD_eq; intro i hi
  simp only [fieldIP, BitVec.getLsbD_extractLsb', getLsbD_withCcrBit n hn]
  grind

/-! ### Addresses -/

/-- An address plus 6 minus 6. -/
@[simp] theorem add_six_sub_six (a : Addr) : a + 6 - 6 = a := by
  simp [BitVec.add_sub_cancel]

theorem evenAddr_of_even (a : Addr) (h : a.getLsbD 0 = false) : evenAddr a = a := by
  apply BitVec.eq_of_getLsbD_eq; intro i hi
  rcases i with _ | i
  · simp only [evenAddr, BitVec.getLsbD_and, h, Bool.false_and]
  · have : (0xFFFFE#20).getLsbD (i + 1) = true := by
      have : ∀ j : Fin 20, j.val ≠ 0 → (0xFFFFE#20).getLsbD j.val = true := by decide
      exact this ⟨i + 1, hi⟩ (by simp)
    simp [evenAddr, this]

@[simp] theorem evenAddr_even (a : Addr) : (evenAddr a).getLsbD 0 = false := by
  simp [evenAddr]

end Machine
end Sys2Proof
end

