-- ==== Sys2Proof/Laws/Flags.lean ====
section
/-! SUPPORT. What each CCR update writes and what it leaves; the flags of the shared flag computations. -/

namespace Sys2Proof.Machine

@[simp] theorem flagS_withMV (v : Bool) (c : Word) : flagS (withMV v c) = flagS c := by
  simp only [flagS, withMV, ccrBit, getLsbD_withCcrBit 14 (by decide)]; rfl
@[simp] theorem flagS_withH (v : Bool) (c : Word) : flagS (withH v c) = flagS c := by
  simp only [flagS, withH, ccrBit, getLsbD_withCcrBit 13 (by decide)]; rfl
@[simp] theorem flagS_withEV (v : Bool) (c : Word) : flagS (withEV v c) = flagS c := by
  simp only [flagS, withEV, ccrBit, getLsbD_withCcrBit 12 (by decide)]; rfl
@[simp] theorem flagS_withN (v : Bool) (c : Word) : flagS (withN v c) = flagS c := by
  simp only [flagS, withN, ccrBit, getLsbD_withCcrBit 11 (by decide)]; rfl
@[simp] theorem flagS_withZ (v : Bool) (c : Word) : flagS (withZ v c) = flagS c := by
  simp only [flagS, withZ, ccrBit, getLsbD_withCcrBit 10 (by decide)]; rfl
@[simp] theorem flagS_withV (v : Bool) (c : Word) : flagS (withV v c) = flagS c := by
  simp only [flagS, withV, ccrBit, getLsbD_withCcrBit 9 (by decide)]; rfl
@[simp] theorem flagS_withC (v : Bool) (c : Word) : flagS (withC v c) = flagS c := by
  simp only [flagS, withC, ccrBit, getLsbD_withCcrBit 8 (by decide)]; rfl
@[simp] theorem flagS_withPK (k : Ext) (c : Word) : flagS (withPK k c) = flagS c := by
  simp only [flagS, ccrBit, getLsbD_withPK]; rfl
@[simp] theorem flagS_withIP (k : BitVec 3) (c : Word) : flagS (withIP k c) = flagS c := by
  simp only [flagS, ccrBit, getLsbD_withIP]; rfl
@[simp] theorem flagMV_withMV (v : Bool) (c : Word) : flagMV (withMV v c) = v := by
  simp only [flagMV, withMV, ccrBit, getLsbD_withCcrBit 14 (by decide)]; rfl
@[simp] theorem flagMV_withH (v : Bool) (c : Word) : flagMV (withH v c) = flagMV c := by
  simp only [flagMV, withH, ccrBit, getLsbD_withCcrBit 13 (by decide)]; rfl
@[simp] theorem flagMV_withEV (v : Bool) (c : Word) : flagMV (withEV v c) = flagMV c := by
  simp only [flagMV, withEV, ccrBit, getLsbD_withCcrBit 12 (by decide)]; rfl
@[simp] theorem flagMV_withN (v : Bool) (c : Word) : flagMV (withN v c) = flagMV c := by
  simp only [flagMV, withN, ccrBit, getLsbD_withCcrBit 11 (by decide)]; rfl
@[simp] theorem flagMV_withZ (v : Bool) (c : Word) : flagMV (withZ v c) = flagMV c := by
  simp only [flagMV, withZ, ccrBit, getLsbD_withCcrBit 10 (by decide)]; rfl
@[simp] theorem flagMV_withV (v : Bool) (c : Word) : flagMV (withV v c) = flagMV c := by
  simp only [flagMV, withV, ccrBit, getLsbD_withCcrBit 9 (by decide)]; rfl
@[simp] theorem flagMV_withC (v : Bool) (c : Word) : flagMV (withC v c) = flagMV c := by
  simp only [flagMV, withC, ccrBit, getLsbD_withCcrBit 8 (by decide)]; rfl
@[simp] theorem flagMV_withPK (k : Ext) (c : Word) : flagMV (withPK k c) = flagMV c := by
  simp only [flagMV, ccrBit, getLsbD_withPK]; rfl
@[simp] theorem flagMV_withIP (k : BitVec 3) (c : Word) : flagMV (withIP k c) = flagMV c := by
  simp only [flagMV, ccrBit, getLsbD_withIP]; rfl
@[simp] theorem flagH_withMV (v : Bool) (c : Word) : flagH (withMV v c) = flagH c := by
  simp only [flagH, withMV, ccrBit, getLsbD_withCcrBit 14 (by decide)]; rfl
@[simp] theorem flagH_withH (v : Bool) (c : Word) : flagH (withH v c) = v := by
  simp only [flagH, withH, ccrBit, getLsbD_withCcrBit 13 (by decide)]; rfl
@[simp] theorem flagH_withEV (v : Bool) (c : Word) : flagH (withEV v c) = flagH c := by
  simp only [flagH, withEV, ccrBit, getLsbD_withCcrBit 12 (by decide)]; rfl
@[simp] theorem flagH_withN (v : Bool) (c : Word) : flagH (withN v c) = flagH c := by
  simp only [flagH, withN, ccrBit, getLsbD_withCcrBit 11 (by decide)]; rfl
@[simp] theorem flagH_withZ (v : Bool) (c : Word) : flagH (withZ v c) = flagH c := by
  simp only [flagH, withZ, ccrBit, getLsbD_withCcrBit 10 (by decide)]; rfl
@[simp] theorem flagH_withV (v : Bool) (c : Word) : flagH (withV v c) = flagH c := by
  simp only [flagH, withV, ccrBit, getLsbD_withCcrBit 9 (by decide)]; rfl
@[simp] theorem flagH_withC (v : Bool) (c : Word) : flagH (withC v c) = flagH c := by
  simp only [flagH, withC, ccrBit, getLsbD_withCcrBit 8 (by decide)]; rfl
@[simp] theorem flagH_withPK (k : Ext) (c : Word) : flagH (withPK k c) = flagH c := by
  simp only [flagH, ccrBit, getLsbD_withPK]; rfl
@[simp] theorem flagH_withIP (k : BitVec 3) (c : Word) : flagH (withIP k c) = flagH c := by
  simp only [flagH, ccrBit, getLsbD_withIP]; rfl
@[simp] theorem flagEV_withMV (v : Bool) (c : Word) : flagEV (withMV v c) = flagEV c := by
  simp only [flagEV, withMV, ccrBit, getLsbD_withCcrBit 14 (by decide)]; rfl
@[simp] theorem flagEV_withH (v : Bool) (c : Word) : flagEV (withH v c) = flagEV c := by
  simp only [flagEV, withH, ccrBit, getLsbD_withCcrBit 13 (by decide)]; rfl
@[simp] theorem flagEV_withEV (v : Bool) (c : Word) : flagEV (withEV v c) = v := by
  simp only [flagEV, withEV, ccrBit, getLsbD_withCcrBit 12 (by decide)]; rfl
@[simp] theorem flagEV_withN (v : Bool) (c : Word) : flagEV (withN v c) = flagEV c := by
  simp only [flagEV, withN, ccrBit, getLsbD_withCcrBit 11 (by decide)]; rfl
@[simp] theorem flagEV_withZ (v : Bool) (c : Word) : flagEV (withZ v c) = flagEV c := by
  simp only [flagEV, withZ, ccrBit, getLsbD_withCcrBit 10 (by decide)]; rfl
@[simp] theorem flagEV_withV (v : Bool) (c : Word) : flagEV (withV v c) = flagEV c := by
  simp only [flagEV, withV, ccrBit, getLsbD_withCcrBit 9 (by decide)]; rfl
@[simp] theorem flagEV_withC (v : Bool) (c : Word) : flagEV (withC v c) = flagEV c := by
  simp only [flagEV, withC, ccrBit, getLsbD_withCcrBit 8 (by decide)]; rfl
@[simp] theorem flagEV_withPK (k : Ext) (c : Word) : flagEV (withPK k c) = flagEV c := by
  simp only [flagEV, ccrBit, getLsbD_withPK]; rfl
@[simp] theorem flagEV_withIP (k : BitVec 3) (c : Word) : flagEV (withIP k c) = flagEV c := by
  simp only [flagEV, ccrBit, getLsbD_withIP]; rfl
@[simp] theorem flagN_withMV (v : Bool) (c : Word) : flagN (withMV v c) = flagN c := by
  simp only [flagN, withMV, ccrBit, getLsbD_withCcrBit 14 (by decide)]; rfl
@[simp] theorem flagN_withH (v : Bool) (c : Word) : flagN (withH v c) = flagN c := by
  simp only [flagN, withH, ccrBit, getLsbD_withCcrBit 13 (by decide)]; rfl
@[simp] theorem flagN_withEV (v : Bool) (c : Word) : flagN (withEV v c) = flagN c := by
  simp only [flagN, withEV, ccrBit, getLsbD_withCcrBit 12 (by decide)]; rfl
@[simp] theorem flagN_withN (v : Bool) (c : Word) : flagN (withN v c) = v := by
  simp only [flagN, withN, ccrBit, getLsbD_withCcrBit 11 (by decide)]; rfl
@[simp] theorem flagN_withZ (v : Bool) (c : Word) : flagN (withZ v c) = flagN c := by
  simp only [flagN, withZ, ccrBit, getLsbD_withCcrBit 10 (by decide)]; rfl
@[simp] theorem flagN_withV (v : Bool) (c : Word) : flagN (withV v c) = flagN c := by
  simp only [flagN, withV, ccrBit, getLsbD_withCcrBit 9 (by decide)]; rfl
@[simp] theorem flagN_withC (v : Bool) (c : Word) : flagN (withC v c) = flagN c := by
  simp only [flagN, withC, ccrBit, getLsbD_withCcrBit 8 (by decide)]; rfl
@[simp] theorem flagN_withPK (k : Ext) (c : Word) : flagN (withPK k c) = flagN c := by
  simp only [flagN, ccrBit, getLsbD_withPK]; rfl
@[simp] theorem flagN_withIP (k : BitVec 3) (c : Word) : flagN (withIP k c) = flagN c := by
  simp only [flagN, ccrBit, getLsbD_withIP]; rfl
@[simp] theorem flagZ_withMV (v : Bool) (c : Word) : flagZ (withMV v c) = flagZ c := by
  simp only [flagZ, withMV, ccrBit, getLsbD_withCcrBit 14 (by decide)]; rfl
@[simp] theorem flagZ_withH (v : Bool) (c : Word) : flagZ (withH v c) = flagZ c := by
  simp only [flagZ, withH, ccrBit, getLsbD_withCcrBit 13 (by decide)]; rfl
@[simp] theorem flagZ_withEV (v : Bool) (c : Word) : flagZ (withEV v c) = flagZ c := by
  simp only [flagZ, withEV, ccrBit, getLsbD_withCcrBit 12 (by decide)]; rfl
@[simp] theorem flagZ_withN (v : Bool) (c : Word) : flagZ (withN v c) = flagZ c := by
  simp only [flagZ, withN, ccrBit, getLsbD_withCcrBit 11 (by decide)]; rfl
@[simp] theorem flagZ_withZ (v : Bool) (c : Word) : flagZ (withZ v c) = v := by
  simp only [flagZ, withZ, ccrBit, getLsbD_withCcrBit 10 (by decide)]; rfl
@[simp] theorem flagZ_withV (v : Bool) (c : Word) : flagZ (withV v c) = flagZ c := by
  simp only [flagZ, withV, ccrBit, getLsbD_withCcrBit 9 (by decide)]; rfl
@[simp] theorem flagZ_withC (v : Bool) (c : Word) : flagZ (withC v c) = flagZ c := by
  simp only [flagZ, withC, ccrBit, getLsbD_withCcrBit 8 (by decide)]; rfl
@[simp] theorem flagZ_withPK (k : Ext) (c : Word) : flagZ (withPK k c) = flagZ c := by
  simp only [flagZ, ccrBit, getLsbD_withPK]; rfl
@[simp] theorem flagZ_withIP (k : BitVec 3) (c : Word) : flagZ (withIP k c) = flagZ c := by
  simp only [flagZ, ccrBit, getLsbD_withIP]; rfl
@[simp] theorem flagV_withMV (v : Bool) (c : Word) : flagV (withMV v c) = flagV c := by
  simp only [flagV, withMV, ccrBit, getLsbD_withCcrBit 14 (by decide)]; rfl
@[simp] theorem flagV_withH (v : Bool) (c : Word) : flagV (withH v c) = flagV c := by
  simp only [flagV, withH, ccrBit, getLsbD_withCcrBit 13 (by decide)]; rfl
@[simp] theorem flagV_withEV (v : Bool) (c : Word) : flagV (withEV v c) = flagV c := by
  simp only [flagV, withEV, ccrBit, getLsbD_withCcrBit 12 (by decide)]; rfl
@[simp] theorem flagV_withN (v : Bool) (c : Word) : flagV (withN v c) = flagV c := by
  simp only [flagV, withN, ccrBit, getLsbD_withCcrBit 11 (by decide)]; rfl
@[simp] theorem flagV_withZ (v : Bool) (c : Word) : flagV (withZ v c) = flagV c := by
  simp only [flagV, withZ, ccrBit, getLsbD_withCcrBit 10 (by decide)]; rfl
@[simp] theorem flagV_withV (v : Bool) (c : Word) : flagV (withV v c) = v := by
  simp only [flagV, withV, ccrBit, getLsbD_withCcrBit 9 (by decide)]; rfl
@[simp] theorem flagV_withC (v : Bool) (c : Word) : flagV (withC v c) = flagV c := by
  simp only [flagV, withC, ccrBit, getLsbD_withCcrBit 8 (by decide)]; rfl
@[simp] theorem flagV_withPK (k : Ext) (c : Word) : flagV (withPK k c) = flagV c := by
  simp only [flagV, ccrBit, getLsbD_withPK]; rfl
@[simp] theorem flagV_withIP (k : BitVec 3) (c : Word) : flagV (withIP k c) = flagV c := by
  simp only [flagV, ccrBit, getLsbD_withIP]; rfl
@[simp] theorem flagC_withMV (v : Bool) (c : Word) : flagC (withMV v c) = flagC c := by
  simp only [flagC, withMV, ccrBit, getLsbD_withCcrBit 14 (by decide)]; rfl
@[simp] theorem flagC_withH (v : Bool) (c : Word) : flagC (withH v c) = flagC c := by
  simp only [flagC, withH, ccrBit, getLsbD_withCcrBit 13 (by decide)]; rfl
@[simp] theorem flagC_withEV (v : Bool) (c : Word) : flagC (withEV v c) = flagC c := by
  simp only [flagC, withEV, ccrBit, getLsbD_withCcrBit 12 (by decide)]; rfl
@[simp] theorem flagC_withN (v : Bool) (c : Word) : flagC (withN v c) = flagC c := by
  simp only [flagC, withN, ccrBit, getLsbD_withCcrBit 11 (by decide)]; rfl
@[simp] theorem flagC_withZ (v : Bool) (c : Word) : flagC (withZ v c) = flagC c := by
  simp only [flagC, withZ, ccrBit, getLsbD_withCcrBit 10 (by decide)]; rfl
@[simp] theorem flagC_withV (v : Bool) (c : Word) : flagC (withV v c) = flagC c := by
  simp only [flagC, withV, ccrBit, getLsbD_withCcrBit 9 (by decide)]; rfl
@[simp] theorem flagC_withC (v : Bool) (c : Word) : flagC (withC v c) = v := by
  simp only [flagC, withC, ccrBit, getLsbD_withCcrBit 8 (by decide)]; rfl
@[simp] theorem flagC_withPK (k : Ext) (c : Word) : flagC (withPK k c) = flagC c := by
  simp only [flagC, ccrBit, getLsbD_withPK]; rfl
@[simp] theorem flagC_withIP (k : BitVec 3) (c : Word) : flagC (withIP k c) = flagC c := by
  simp only [flagC, ccrBit, getLsbD_withIP]; rfl
@[simp] theorem flagSM_withMV (v : Bool) (c : Word) : flagSM (withMV v c) = flagSM c := by
  simp only [flagSM, withMV, ccrBit, getLsbD_withCcrBit 14 (by decide)]; rfl
@[simp] theorem flagSM_withH (v : Bool) (c : Word) : flagSM (withH v c) = flagSM c := by
  simp only [flagSM, withH, ccrBit, getLsbD_withCcrBit 13 (by decide)]; rfl
@[simp] theorem flagSM_withEV (v : Bool) (c : Word) : flagSM (withEV v c) = flagSM c := by
  simp only [flagSM, withEV, ccrBit, getLsbD_withCcrBit 12 (by decide)]; rfl
@[simp] theorem flagSM_withN (v : Bool) (c : Word) : flagSM (withN v c) = flagSM c := by
  simp only [flagSM, withN, ccrBit, getLsbD_withCcrBit 11 (by decide)]; rfl
@[simp] theorem flagSM_withZ (v : Bool) (c : Word) : flagSM (withZ v c) = flagSM c := by
  simp only [flagSM, withZ, ccrBit, getLsbD_withCcrBit 10 (by decide)]; rfl
@[simp] theorem flagSM_withV (v : Bool) (c : Word) : flagSM (withV v c) = flagSM c := by
  simp only [flagSM, withV, ccrBit, getLsbD_withCcrBit 9 (by decide)]; rfl
@[simp] theorem flagSM_withC (v : Bool) (c : Word) : flagSM (withC v c) = flagSM c := by
  simp only [flagSM, withC, ccrBit, getLsbD_withCcrBit 8 (by decide)]; rfl
@[simp] theorem flagSM_withPK (k : Ext) (c : Word) : flagSM (withPK k c) = flagSM c := by
  simp only [flagSM, ccrBit, getLsbD_withPK]; rfl
@[simp] theorem flagSM_withIP (k : BitVec 3) (c : Word) : flagSM (withIP k c) = flagSM c := by
  simp only [flagSM, ccrBit, getLsbD_withIP]; rfl
@[simp] theorem fieldPK_withMV (v : Bool) (c : Word) : fieldPK (withMV v c) = fieldPK c :=
  fieldPK_withCcrBit 14 (by decide) (by decide) v c
@[simp] theorem fieldIP_withMV (v : Bool) (c : Word) : fieldIP (withMV v c) = fieldIP c :=
  fieldIP_withCcrBit 14 (by decide) (by decide) v c
@[simp] theorem getLsbD_withMV (v : Bool) (c : Word) (k : Nat) :
    (withMV v c).getLsbD k = if k = 14 then v else c.getLsbD k := getLsbD_withCcrBit 14 (by decide) v c k
@[simp] theorem fieldPK_withH (v : Bool) (c : Word) : fieldPK (withH v c) = fieldPK c :=
  fieldPK_withCcrBit 13 (by decide) (by decide) v c
@[simp] theorem fieldIP_withH (v : Bool) (c : Word) : fieldIP (withH v c) = fieldIP c :=
  fieldIP_withCcrBit 13 (by decide) (by decide) v c
@[simp] theorem getLsbD_withH (v : Bool) (c : Word) (k : Nat) :
    (withH v c).getLsbD k = if k = 13 then v else c.getLsbD k := getLsbD_withCcrBit 13 (by decide) v c k
@[simp] theorem fieldPK_withEV (v : Bool) (c : Word) : fieldPK (withEV v c) = fieldPK c :=
  fieldPK_withCcrBit 12 (by decide) (by decide) v c
@[simp] theorem fieldIP_withEV (v : Bool) (c : Word) : fieldIP (withEV v c) = fieldIP c :=
  fieldIP_withCcrBit 12 (by decide) (by decide) v c
@[simp] theorem getLsbD_withEV (v : Bool) (c : Word) (k : Nat) :
    (withEV v c).getLsbD k = if k = 12 then v else c.getLsbD k := getLsbD_withCcrBit 12 (by decide) v c k
@[simp] theorem fieldPK_withN (v : Bool) (c : Word) : fieldPK (withN v c) = fieldPK c :=
  fieldPK_withCcrBit 11 (by decide) (by decide) v c
@[simp] theorem fieldIP_withN (v : Bool) (c : Word) : fieldIP (withN v c) = fieldIP c :=
  fieldIP_withCcrBit 11 (by decide) (by decide) v c
@[simp] theorem getLsbD_withN (v : Bool) (c : Word) (k : Nat) :
    (withN v c).getLsbD k = if k = 11 then v else c.getLsbD k := getLsbD_withCcrBit 11 (by decide) v c k
@[simp] theorem fieldPK_withZ (v : Bool) (c : Word) : fieldPK (withZ v c) = fieldPK c :=
  fieldPK_withCcrBit 10 (by decide) (by decide) v c
@[simp] theorem fieldIP_withZ (v : Bool) (c : Word) : fieldIP (withZ v c) = fieldIP c :=
  fieldIP_withCcrBit 10 (by decide) (by decide) v c
@[simp] theorem getLsbD_withZ (v : Bool) (c : Word) (k : Nat) :
    (withZ v c).getLsbD k = if k = 10 then v else c.getLsbD k := getLsbD_withCcrBit 10 (by decide) v c k
@[simp] theorem fieldPK_withV (v : Bool) (c : Word) : fieldPK (withV v c) = fieldPK c :=
  fieldPK_withCcrBit 9 (by decide) (by decide) v c
@[simp] theorem fieldIP_withV (v : Bool) (c : Word) : fieldIP (withV v c) = fieldIP c :=
  fieldIP_withCcrBit 9 (by decide) (by decide) v c
@[simp] theorem getLsbD_withV (v : Bool) (c : Word) (k : Nat) :
    (withV v c).getLsbD k = if k = 9 then v else c.getLsbD k := getLsbD_withCcrBit 9 (by decide) v c k
@[simp] theorem fieldPK_withC (v : Bool) (c : Word) : fieldPK (withC v c) = fieldPK c :=
  fieldPK_withCcrBit 8 (by decide) (by decide) v c
@[simp] theorem fieldIP_withC (v : Bool) (c : Word) : fieldIP (withC v c) = fieldIP c :=
  fieldIP_withCcrBit 8 (by decide) (by decide) v c
@[simp] theorem getLsbD_withC (v : Bool) (c : Word) (k : Nat) :
    (withC v c).getLsbD k = if k = 8 then v else c.getLsbD k := getLsbD_withCcrBit 8 (by decide) v c k

theorem getLsbD_setNZ {w : Nat} (r : BitVec w) (c : Word) (k : Nat) :
    (setNZ r c).getLsbD k = if k = 11 then r.msb else if k = 10 then r == 0 else c.getLsbD k := by
  simp [setNZ]

theorem getLsbD_setNZ0 {w : Nat} (r : BitVec w) (c : Word) (k : Nat) :
    (setNZ0 r c).getLsbD k =
      if k = 9 then false else if k = 11 then r.msb else if k = 10 then r == 0 else c.getLsbD k := by
  simp [setNZ0, getLsbD_setNZ]

theorem getLsbD_setNZVC {w : Nat} (r : BitVec w) (v cy : Bool) (c : Word) (k : Nat) :
    (setNZVC r v cy c).getLsbD k =
      if k = 8 then cy else if k = 9 then v else if k = 11 then r.msb else if k = 10 then r == 0
      else c.getLsbD k := by
  simp [setNZVC, getLsbD_setNZ]

theorem ccr_ext {c d : Word} (h : ∀ k, k < 16 → c.getLsbD k = d.getLsbD k) : c = d :=
  BitVec.eq_of_getLsbD_eq h

end Sys2Proof.Machine
end

