-- ==== Sys2Proof/Laws/State.lean ====
section
/-! SUPPORT. One lemma per field per update: what each setter writes and what it leaves. -/

namespace Sys2Proof.Machine

@[simp] theorem State.setA_reg_a (s : State) (v : Byte) : (s.setA v).reg.a = v := rfl
@[simp] theorem State.setA_reg_b (s : State) (v : Byte) : (s.setA v).reg.b = s.reg.b := rfl
@[simp] theorem State.setA_reg_e (s : State) (v : Byte) : (s.setA v).reg.e = s.reg.e := rfl
@[simp] theorem State.setA_reg_ix (s : State) (v : Byte) : (s.setA v).reg.ix = s.reg.ix := rfl
@[simp] theorem State.setA_reg_iy (s : State) (v : Byte) : (s.setA v).reg.iy = s.reg.iy := rfl
@[simp] theorem State.setA_reg_iz (s : State) (v : Byte) : (s.setA v).reg.iz = s.reg.iz := rfl
@[simp] theorem State.setA_reg_sp (s : State) (v : Byte) : (s.setA v).reg.sp = s.reg.sp := rfl
@[simp] theorem State.setA_reg_pc (s : State) (v : Byte) : (s.setA v).reg.pc = s.reg.pc := rfl
@[simp] theorem State.setA_reg_ccr (s : State) (v : Byte) : (s.setA v).reg.ccr = s.reg.ccr := rfl
@[simp] theorem State.setA_reg_ek (s : State) (v : Byte) : (s.setA v).reg.ek = s.reg.ek := rfl
@[simp] theorem State.setA_reg_xk (s : State) (v : Byte) : (s.setA v).reg.xk = s.reg.xk := rfl
@[simp] theorem State.setA_reg_yk (s : State) (v : Byte) : (s.setA v).reg.yk = s.reg.yk := rfl
@[simp] theorem State.setA_reg_zk (s : State) (v : Byte) : (s.setA v).reg.zk = s.reg.zk := rfl
@[simp] theorem State.setA_reg_sk (s : State) (v : Byte) : (s.setA v).reg.sk = s.reg.sk := rfl
@[simp] theorem State.setA_mac (s : State) (v : Byte) : (s.setA v).mac = s.mac := rfl
@[simp] theorem State.setA_ctl (s : State) (v : Byte) : (s.setA v).ctl = s.ctl := rfl
@[simp] theorem State.setA_mem (s : State) (v : Byte) : (s.setA v).mem = s.mem := rfl
@[simp] theorem State.setA_prog (s : State) (v : Byte) : (s.setA v).prog = s.prog := rfl
@[simp] theorem State.setA_free (s : State) (v : Byte) : (s.setA v).free = s.free := rfl
@[simp] theorem State.setA_stale (s : State) (v : Byte) : (s.setA v).stale = s.stale := rfl
@[simp] theorem State.setA_begun (s : State) (v : Byte) : (s.setA v).begun = s.begun := rfl
@[simp] theorem State.setA_plat (s : State) (v : Byte) : (s.setA v).plat = s.plat := rfl

@[simp] theorem State.setB_reg_a (s : State) (v : Byte) : (s.setB v).reg.a = s.reg.a := rfl
@[simp] theorem State.setB_reg_b (s : State) (v : Byte) : (s.setB v).reg.b = v := rfl
@[simp] theorem State.setB_reg_e (s : State) (v : Byte) : (s.setB v).reg.e = s.reg.e := rfl
@[simp] theorem State.setB_reg_ix (s : State) (v : Byte) : (s.setB v).reg.ix = s.reg.ix := rfl
@[simp] theorem State.setB_reg_iy (s : State) (v : Byte) : (s.setB v).reg.iy = s.reg.iy := rfl
@[simp] theorem State.setB_reg_iz (s : State) (v : Byte) : (s.setB v).reg.iz = s.reg.iz := rfl
@[simp] theorem State.setB_reg_sp (s : State) (v : Byte) : (s.setB v).reg.sp = s.reg.sp := rfl
@[simp] theorem State.setB_reg_pc (s : State) (v : Byte) : (s.setB v).reg.pc = s.reg.pc := rfl
@[simp] theorem State.setB_reg_ccr (s : State) (v : Byte) : (s.setB v).reg.ccr = s.reg.ccr := rfl
@[simp] theorem State.setB_reg_ek (s : State) (v : Byte) : (s.setB v).reg.ek = s.reg.ek := rfl
@[simp] theorem State.setB_reg_xk (s : State) (v : Byte) : (s.setB v).reg.xk = s.reg.xk := rfl
@[simp] theorem State.setB_reg_yk (s : State) (v : Byte) : (s.setB v).reg.yk = s.reg.yk := rfl
@[simp] theorem State.setB_reg_zk (s : State) (v : Byte) : (s.setB v).reg.zk = s.reg.zk := rfl
@[simp] theorem State.setB_reg_sk (s : State) (v : Byte) : (s.setB v).reg.sk = s.reg.sk := rfl
@[simp] theorem State.setB_mac (s : State) (v : Byte) : (s.setB v).mac = s.mac := rfl
@[simp] theorem State.setB_ctl (s : State) (v : Byte) : (s.setB v).ctl = s.ctl := rfl
@[simp] theorem State.setB_mem (s : State) (v : Byte) : (s.setB v).mem = s.mem := rfl
@[simp] theorem State.setB_prog (s : State) (v : Byte) : (s.setB v).prog = s.prog := rfl
@[simp] theorem State.setB_free (s : State) (v : Byte) : (s.setB v).free = s.free := rfl
@[simp] theorem State.setB_stale (s : State) (v : Byte) : (s.setB v).stale = s.stale := rfl
@[simp] theorem State.setB_begun (s : State) (v : Byte) : (s.setB v).begun = s.begun := rfl
@[simp] theorem State.setB_plat (s : State) (v : Byte) : (s.setB v).plat = s.plat := rfl

@[simp] theorem State.setE_reg_a (s : State) (v : Word) : (s.setE v).reg.a = s.reg.a := rfl
@[simp] theorem State.setE_reg_b (s : State) (v : Word) : (s.setE v).reg.b = s.reg.b := rfl
@[simp] theorem State.setE_reg_e (s : State) (v : Word) : (s.setE v).reg.e = v := rfl
@[simp] theorem State.setE_reg_ix (s : State) (v : Word) : (s.setE v).reg.ix = s.reg.ix := rfl
@[simp] theorem State.setE_reg_iy (s : State) (v : Word) : (s.setE v).reg.iy = s.reg.iy := rfl
@[simp] theorem State.setE_reg_iz (s : State) (v : Word) : (s.setE v).reg.iz = s.reg.iz := rfl
@[simp] theorem State.setE_reg_sp (s : State) (v : Word) : (s.setE v).reg.sp = s.reg.sp := rfl
@[simp] theorem State.setE_reg_pc (s : State) (v : Word) : (s.setE v).reg.pc = s.reg.pc := rfl
@[simp] theorem State.setE_reg_ccr (s : State) (v : Word) : (s.setE v).reg.ccr = s.reg.ccr := rfl
@[simp] theorem State.setE_reg_ek (s : State) (v : Word) : (s.setE v).reg.ek = s.reg.ek := rfl
@[simp] theorem State.setE_reg_xk (s : State) (v : Word) : (s.setE v).reg.xk = s.reg.xk := rfl
@[simp] theorem State.setE_reg_yk (s : State) (v : Word) : (s.setE v).reg.yk = s.reg.yk := rfl
@[simp] theorem State.setE_reg_zk (s : State) (v : Word) : (s.setE v).reg.zk = s.reg.zk := rfl
@[simp] theorem State.setE_reg_sk (s : State) (v : Word) : (s.setE v).reg.sk = s.reg.sk := rfl
@[simp] theorem State.setE_mac (s : State) (v : Word) : (s.setE v).mac = s.mac := rfl
@[simp] theorem State.setE_ctl (s : State) (v : Word) : (s.setE v).ctl = s.ctl := rfl
@[simp] theorem State.setE_mem (s : State) (v : Word) : (s.setE v).mem = s.mem := rfl
@[simp] theorem State.setE_prog (s : State) (v : Word) : (s.setE v).prog = s.prog := rfl
@[simp] theorem State.setE_free (s : State) (v : Word) : (s.setE v).free = s.free := rfl
@[simp] theorem State.setE_stale (s : State) (v : Word) : (s.setE v).stale = s.stale := rfl
@[simp] theorem State.setE_begun (s : State) (v : Word) : (s.setE v).begun = s.begun := rfl
@[simp] theorem State.setE_plat (s : State) (v : Word) : (s.setE v).plat = s.plat := rfl

@[simp] theorem State.setIX_reg_a (s : State) (v : Word) : (s.setIX v).reg.a = s.reg.a := rfl
@[simp] theorem State.setIX_reg_b (s : State) (v : Word) : (s.setIX v).reg.b = s.reg.b := rfl
@[simp] theorem State.setIX_reg_e (s : State) (v : Word) : (s.setIX v).reg.e = s.reg.e := rfl
@[simp] theorem State.setIX_reg_ix (s : State) (v : Word) : (s.setIX v).reg.ix = v := rfl
@[simp] theorem State.setIX_reg_iy (s : State) (v : Word) : (s.setIX v).reg.iy = s.reg.iy := rfl
@[simp] theorem State.setIX_reg_iz (s : State) (v : Word) : (s.setIX v).reg.iz = s.reg.iz := rfl
@[simp] theorem State.setIX_reg_sp (s : State) (v : Word) : (s.setIX v).reg.sp = s.reg.sp := rfl
@[simp] theorem State.setIX_reg_pc (s : State) (v : Word) : (s.setIX v).reg.pc = s.reg.pc := rfl
@[simp] theorem State.setIX_reg_ccr (s : State) (v : Word) : (s.setIX v).reg.ccr = s.reg.ccr := rfl
@[simp] theorem State.setIX_reg_ek (s : State) (v : Word) : (s.setIX v).reg.ek = s.reg.ek := rfl
@[simp] theorem State.setIX_reg_xk (s : State) (v : Word) : (s.setIX v).reg.xk = s.reg.xk := rfl
@[simp] theorem State.setIX_reg_yk (s : State) (v : Word) : (s.setIX v).reg.yk = s.reg.yk := rfl
@[simp] theorem State.setIX_reg_zk (s : State) (v : Word) : (s.setIX v).reg.zk = s.reg.zk := rfl
@[simp] theorem State.setIX_reg_sk (s : State) (v : Word) : (s.setIX v).reg.sk = s.reg.sk := rfl
@[simp] theorem State.setIX_mac (s : State) (v : Word) : (s.setIX v).mac = s.mac := rfl
@[simp] theorem State.setIX_ctl (s : State) (v : Word) : (s.setIX v).ctl = s.ctl := rfl
@[simp] theorem State.setIX_mem (s : State) (v : Word) : (s.setIX v).mem = s.mem := rfl
@[simp] theorem State.setIX_prog (s : State) (v : Word) : (s.setIX v).prog = s.prog := rfl
@[simp] theorem State.setIX_free (s : State) (v : Word) : (s.setIX v).free = s.free := rfl
@[simp] theorem State.setIX_stale (s : State) (v : Word) : (s.setIX v).stale = s.stale := rfl
@[simp] theorem State.setIX_begun (s : State) (v : Word) : (s.setIX v).begun = s.begun := rfl
@[simp] theorem State.setIX_plat (s : State) (v : Word) : (s.setIX v).plat = s.plat := rfl

@[simp] theorem State.setIY_reg_a (s : State) (v : Word) : (s.setIY v).reg.a = s.reg.a := rfl
@[simp] theorem State.setIY_reg_b (s : State) (v : Word) : (s.setIY v).reg.b = s.reg.b := rfl
@[simp] theorem State.setIY_reg_e (s : State) (v : Word) : (s.setIY v).reg.e = s.reg.e := rfl
@[simp] theorem State.setIY_reg_ix (s : State) (v : Word) : (s.setIY v).reg.ix = s.reg.ix := rfl
@[simp] theorem State.setIY_reg_iy (s : State) (v : Word) : (s.setIY v).reg.iy = v := rfl
@[simp] theorem State.setIY_reg_iz (s : State) (v : Word) : (s.setIY v).reg.iz = s.reg.iz := rfl
@[simp] theorem State.setIY_reg_sp (s : State) (v : Word) : (s.setIY v).reg.sp = s.reg.sp := rfl
@[simp] theorem State.setIY_reg_pc (s : State) (v : Word) : (s.setIY v).reg.pc = s.reg.pc := rfl
@[simp] theorem State.setIY_reg_ccr (s : State) (v : Word) : (s.setIY v).reg.ccr = s.reg.ccr := rfl
@[simp] theorem State.setIY_reg_ek (s : State) (v : Word) : (s.setIY v).reg.ek = s.reg.ek := rfl
@[simp] theorem State.setIY_reg_xk (s : State) (v : Word) : (s.setIY v).reg.xk = s.reg.xk := rfl
@[simp] theorem State.setIY_reg_yk (s : State) (v : Word) : (s.setIY v).reg.yk = s.reg.yk := rfl
@[simp] theorem State.setIY_reg_zk (s : State) (v : Word) : (s.setIY v).reg.zk = s.reg.zk := rfl
@[simp] theorem State.setIY_reg_sk (s : State) (v : Word) : (s.setIY v).reg.sk = s.reg.sk := rfl
@[simp] theorem State.setIY_mac (s : State) (v : Word) : (s.setIY v).mac = s.mac := rfl
@[simp] theorem State.setIY_ctl (s : State) (v : Word) : (s.setIY v).ctl = s.ctl := rfl
@[simp] theorem State.setIY_mem (s : State) (v : Word) : (s.setIY v).mem = s.mem := rfl
@[simp] theorem State.setIY_prog (s : State) (v : Word) : (s.setIY v).prog = s.prog := rfl
@[simp] theorem State.setIY_free (s : State) (v : Word) : (s.setIY v).free = s.free := rfl
@[simp] theorem State.setIY_stale (s : State) (v : Word) : (s.setIY v).stale = s.stale := rfl
@[simp] theorem State.setIY_begun (s : State) (v : Word) : (s.setIY v).begun = s.begun := rfl
@[simp] theorem State.setIY_plat (s : State) (v : Word) : (s.setIY v).plat = s.plat := rfl

@[simp] theorem State.setIZ_reg_a (s : State) (v : Word) : (s.setIZ v).reg.a = s.reg.a := rfl
@[simp] theorem State.setIZ_reg_b (s : State) (v : Word) : (s.setIZ v).reg.b = s.reg.b := rfl
@[simp] theorem State.setIZ_reg_e (s : State) (v : Word) : (s.setIZ v).reg.e = s.reg.e := rfl
@[simp] theorem State.setIZ_reg_ix (s : State) (v : Word) : (s.setIZ v).reg.ix = s.reg.ix := rfl
@[simp] theorem State.setIZ_reg_iy (s : State) (v : Word) : (s.setIZ v).reg.iy = s.reg.iy := rfl
@[simp] theorem State.setIZ_reg_iz (s : State) (v : Word) : (s.setIZ v).reg.iz = v := rfl
@[simp] theorem State.setIZ_reg_sp (s : State) (v : Word) : (s.setIZ v).reg.sp = s.reg.sp := rfl
@[simp] theorem State.setIZ_reg_pc (s : State) (v : Word) : (s.setIZ v).reg.pc = s.reg.pc := rfl
@[simp] theorem State.setIZ_reg_ccr (s : State) (v : Word) : (s.setIZ v).reg.ccr = s.reg.ccr := rfl
@[simp] theorem State.setIZ_reg_ek (s : State) (v : Word) : (s.setIZ v).reg.ek = s.reg.ek := rfl
@[simp] theorem State.setIZ_reg_xk (s : State) (v : Word) : (s.setIZ v).reg.xk = s.reg.xk := rfl
@[simp] theorem State.setIZ_reg_yk (s : State) (v : Word) : (s.setIZ v).reg.yk = s.reg.yk := rfl
@[simp] theorem State.setIZ_reg_zk (s : State) (v : Word) : (s.setIZ v).reg.zk = s.reg.zk := rfl
@[simp] theorem State.setIZ_reg_sk (s : State) (v : Word) : (s.setIZ v).reg.sk = s.reg.sk := rfl
@[simp] theorem State.setIZ_mac (s : State) (v : Word) : (s.setIZ v).mac = s.mac := rfl
@[simp] theorem State.setIZ_ctl (s : State) (v : Word) : (s.setIZ v).ctl = s.ctl := rfl
@[simp] theorem State.setIZ_mem (s : State) (v : Word) : (s.setIZ v).mem = s.mem := rfl
@[simp] theorem State.setIZ_prog (s : State) (v : Word) : (s.setIZ v).prog = s.prog := rfl
@[simp] theorem State.setIZ_free (s : State) (v : Word) : (s.setIZ v).free = s.free := rfl
@[simp] theorem State.setIZ_stale (s : State) (v : Word) : (s.setIZ v).stale = s.stale := rfl
@[simp] theorem State.setIZ_begun (s : State) (v : Word) : (s.setIZ v).begun = s.begun := rfl
@[simp] theorem State.setIZ_plat (s : State) (v : Word) : (s.setIZ v).plat = s.plat := rfl

@[simp] theorem State.setSP_reg_a (s : State) (v : Word) : (s.setSP v).reg.a = s.reg.a := rfl
@[simp] theorem State.setSP_reg_b (s : State) (v : Word) : (s.setSP v).reg.b = s.reg.b := rfl
@[simp] theorem State.setSP_reg_e (s : State) (v : Word) : (s.setSP v).reg.e = s.reg.e := rfl
@[simp] theorem State.setSP_reg_ix (s : State) (v : Word) : (s.setSP v).reg.ix = s.reg.ix := rfl
@[simp] theorem State.setSP_reg_iy (s : State) (v : Word) : (s.setSP v).reg.iy = s.reg.iy := rfl
@[simp] theorem State.setSP_reg_iz (s : State) (v : Word) : (s.setSP v).reg.iz = s.reg.iz := rfl
@[simp] theorem State.setSP_reg_sp (s : State) (v : Word) : (s.setSP v).reg.sp = v := rfl
@[simp] theorem State.setSP_reg_pc (s : State) (v : Word) : (s.setSP v).reg.pc = s.reg.pc := rfl
@[simp] theorem State.setSP_reg_ccr (s : State) (v : Word) : (s.setSP v).reg.ccr = s.reg.ccr := rfl
@[simp] theorem State.setSP_reg_ek (s : State) (v : Word) : (s.setSP v).reg.ek = s.reg.ek := rfl
@[simp] theorem State.setSP_reg_xk (s : State) (v : Word) : (s.setSP v).reg.xk = s.reg.xk := rfl
@[simp] theorem State.setSP_reg_yk (s : State) (v : Word) : (s.setSP v).reg.yk = s.reg.yk := rfl
@[simp] theorem State.setSP_reg_zk (s : State) (v : Word) : (s.setSP v).reg.zk = s.reg.zk := rfl
@[simp] theorem State.setSP_reg_sk (s : State) (v : Word) : (s.setSP v).reg.sk = s.reg.sk := rfl
@[simp] theorem State.setSP_mac (s : State) (v : Word) : (s.setSP v).mac = s.mac := rfl
@[simp] theorem State.setSP_ctl (s : State) (v : Word) : (s.setSP v).ctl = s.ctl := rfl
@[simp] theorem State.setSP_mem (s : State) (v : Word) : (s.setSP v).mem = s.mem := rfl
@[simp] theorem State.setSP_prog (s : State) (v : Word) : (s.setSP v).prog = s.prog := rfl
@[simp] theorem State.setSP_free (s : State) (v : Word) : (s.setSP v).free = s.free := rfl
@[simp] theorem State.setSP_stale (s : State) (v : Word) : (s.setSP v).stale = s.stale := rfl
@[simp] theorem State.setSP_begun (s : State) (v : Word) : (s.setSP v).begun = s.begun := rfl
@[simp] theorem State.setSP_plat (s : State) (v : Word) : (s.setSP v).plat = s.plat := rfl

@[simp] theorem State.setCcr_reg_a (s : State) (v : Word) : (s.setCcr v).reg.a = s.reg.a := rfl
@[simp] theorem State.setCcr_reg_b (s : State) (v : Word) : (s.setCcr v).reg.b = s.reg.b := rfl
@[simp] theorem State.setCcr_reg_e (s : State) (v : Word) : (s.setCcr v).reg.e = s.reg.e := rfl
@[simp] theorem State.setCcr_reg_ix (s : State) (v : Word) : (s.setCcr v).reg.ix = s.reg.ix := rfl
@[simp] theorem State.setCcr_reg_iy (s : State) (v : Word) : (s.setCcr v).reg.iy = s.reg.iy := rfl
@[simp] theorem State.setCcr_reg_iz (s : State) (v : Word) : (s.setCcr v).reg.iz = s.reg.iz := rfl
@[simp] theorem State.setCcr_reg_sp (s : State) (v : Word) : (s.setCcr v).reg.sp = s.reg.sp := rfl
@[simp] theorem State.setCcr_reg_pc (s : State) (v : Word) : (s.setCcr v).reg.pc = s.reg.pc := rfl
@[simp] theorem State.setCcr_reg_ccr (s : State) (v : Word) : (s.setCcr v).reg.ccr = v := rfl
@[simp] theorem State.setCcr_reg_ek (s : State) (v : Word) : (s.setCcr v).reg.ek = s.reg.ek := rfl
@[simp] theorem State.setCcr_reg_xk (s : State) (v : Word) : (s.setCcr v).reg.xk = s.reg.xk := rfl
@[simp] theorem State.setCcr_reg_yk (s : State) (v : Word) : (s.setCcr v).reg.yk = s.reg.yk := rfl
@[simp] theorem State.setCcr_reg_zk (s : State) (v : Word) : (s.setCcr v).reg.zk = s.reg.zk := rfl
@[simp] theorem State.setCcr_reg_sk (s : State) (v : Word) : (s.setCcr v).reg.sk = s.reg.sk := rfl
@[simp] theorem State.setCcr_mac (s : State) (v : Word) : (s.setCcr v).mac = s.mac := rfl
@[simp] theorem State.setCcr_ctl (s : State) (v : Word) : (s.setCcr v).ctl = s.ctl := rfl
@[simp] theorem State.setCcr_mem (s : State) (v : Word) : (s.setCcr v).mem = s.mem := rfl
@[simp] theorem State.setCcr_prog (s : State) (v : Word) : (s.setCcr v).prog = s.prog := rfl
@[simp] theorem State.setCcr_free (s : State) (v : Word) : (s.setCcr v).free = s.free := rfl
@[simp] theorem State.setCcr_stale (s : State) (v : Word) : (s.setCcr v).stale = s.stale := rfl
@[simp] theorem State.setCcr_begun (s : State) (v : Word) : (s.setCcr v).begun = s.begun := rfl
@[simp] theorem State.setCcr_plat (s : State) (v : Word) : (s.setCcr v).plat = s.plat := rfl

@[simp] theorem State.setEK_reg_a (s : State) (v : Ext) : (s.setEK v).reg.a = s.reg.a := rfl
@[simp] theorem State.setEK_reg_b (s : State) (v : Ext) : (s.setEK v).reg.b = s.reg.b := rfl
@[simp] theorem State.setEK_reg_e (s : State) (v : Ext) : (s.setEK v).reg.e = s.reg.e := rfl
@[simp] theorem State.setEK_reg_ix (s : State) (v : Ext) : (s.setEK v).reg.ix = s.reg.ix := rfl
@[simp] theorem State.setEK_reg_iy (s : State) (v : Ext) : (s.setEK v).reg.iy = s.reg.iy := rfl
@[simp] theorem State.setEK_reg_iz (s : State) (v : Ext) : (s.setEK v).reg.iz = s.reg.iz := rfl
@[simp] theorem State.setEK_reg_sp (s : State) (v : Ext) : (s.setEK v).reg.sp = s.reg.sp := rfl
@[simp] theorem State.setEK_reg_pc (s : State) (v : Ext) : (s.setEK v).reg.pc = s.reg.pc := rfl
@[simp] theorem State.setEK_reg_ccr (s : State) (v : Ext) : (s.setEK v).reg.ccr = s.reg.ccr := rfl
@[simp] theorem State.setEK_reg_ek (s : State) (v : Ext) : (s.setEK v).reg.ek = v := rfl
@[simp] theorem State.setEK_reg_xk (s : State) (v : Ext) : (s.setEK v).reg.xk = s.reg.xk := rfl
@[simp] theorem State.setEK_reg_yk (s : State) (v : Ext) : (s.setEK v).reg.yk = s.reg.yk := rfl
@[simp] theorem State.setEK_reg_zk (s : State) (v : Ext) : (s.setEK v).reg.zk = s.reg.zk := rfl
@[simp] theorem State.setEK_reg_sk (s : State) (v : Ext) : (s.setEK v).reg.sk = s.reg.sk := rfl
@[simp] theorem State.setEK_mac (s : State) (v : Ext) : (s.setEK v).mac = s.mac := rfl
@[simp] theorem State.setEK_ctl (s : State) (v : Ext) : (s.setEK v).ctl = s.ctl := rfl
@[simp] theorem State.setEK_mem (s : State) (v : Ext) : (s.setEK v).mem = s.mem := rfl
@[simp] theorem State.setEK_prog (s : State) (v : Ext) : (s.setEK v).prog = s.prog := rfl
@[simp] theorem State.setEK_free (s : State) (v : Ext) : (s.setEK v).free = s.free := rfl
@[simp] theorem State.setEK_stale (s : State) (v : Ext) : (s.setEK v).stale = s.stale := rfl
@[simp] theorem State.setEK_begun (s : State) (v : Ext) : (s.setEK v).begun = s.begun := rfl
@[simp] theorem State.setEK_plat (s : State) (v : Ext) : (s.setEK v).plat = s.plat := rfl

@[simp] theorem State.setXK_reg_a (s : State) (v : Ext) : (s.setXK v).reg.a = s.reg.a := rfl
@[simp] theorem State.setXK_reg_b (s : State) (v : Ext) : (s.setXK v).reg.b = s.reg.b := rfl
@[simp] theorem State.setXK_reg_e (s : State) (v : Ext) : (s.setXK v).reg.e = s.reg.e := rfl
@[simp] theorem State.setXK_reg_ix (s : State) (v : Ext) : (s.setXK v).reg.ix = s.reg.ix := rfl
@[simp] theorem State.setXK_reg_iy (s : State) (v : Ext) : (s.setXK v).reg.iy = s.reg.iy := rfl
@[simp] theorem State.setXK_reg_iz (s : State) (v : Ext) : (s.setXK v).reg.iz = s.reg.iz := rfl
@[simp] theorem State.setXK_reg_sp (s : State) (v : Ext) : (s.setXK v).reg.sp = s.reg.sp := rfl
@[simp] theorem State.setXK_reg_pc (s : State) (v : Ext) : (s.setXK v).reg.pc = s.reg.pc := rfl
@[simp] theorem State.setXK_reg_ccr (s : State) (v : Ext) : (s.setXK v).reg.ccr = s.reg.ccr := rfl
@[simp] theorem State.setXK_reg_ek (s : State) (v : Ext) : (s.setXK v).reg.ek = s.reg.ek := rfl
@[simp] theorem State.setXK_reg_xk (s : State) (v : Ext) : (s.setXK v).reg.xk = v := rfl
@[simp] theorem State.setXK_reg_yk (s : State) (v : Ext) : (s.setXK v).reg.yk = s.reg.yk := rfl
@[simp] theorem State.setXK_reg_zk (s : State) (v : Ext) : (s.setXK v).reg.zk = s.reg.zk := rfl
@[simp] theorem State.setXK_reg_sk (s : State) (v : Ext) : (s.setXK v).reg.sk = s.reg.sk := rfl
@[simp] theorem State.setXK_mac (s : State) (v : Ext) : (s.setXK v).mac = s.mac := rfl
@[simp] theorem State.setXK_ctl (s : State) (v : Ext) : (s.setXK v).ctl = s.ctl := rfl
@[simp] theorem State.setXK_mem (s : State) (v : Ext) : (s.setXK v).mem = s.mem := rfl
@[simp] theorem State.setXK_prog (s : State) (v : Ext) : (s.setXK v).prog = s.prog := rfl
@[simp] theorem State.setXK_free (s : State) (v : Ext) : (s.setXK v).free = s.free := rfl
@[simp] theorem State.setXK_stale (s : State) (v : Ext) : (s.setXK v).stale = s.stale := rfl
@[simp] theorem State.setXK_begun (s : State) (v : Ext) : (s.setXK v).begun = s.begun := rfl
@[simp] theorem State.setXK_plat (s : State) (v : Ext) : (s.setXK v).plat = s.plat := rfl

@[simp] theorem State.setYK_reg_a (s : State) (v : Ext) : (s.setYK v).reg.a = s.reg.a := rfl
@[simp] theorem State.setYK_reg_b (s : State) (v : Ext) : (s.setYK v).reg.b = s.reg.b := rfl
@[simp] theorem State.setYK_reg_e (s : State) (v : Ext) : (s.setYK v).reg.e = s.reg.e := rfl
@[simp] theorem State.setYK_reg_ix (s : State) (v : Ext) : (s.setYK v).reg.ix = s.reg.ix := rfl
@[simp] theorem State.setYK_reg_iy (s : State) (v : Ext) : (s.setYK v).reg.iy = s.reg.iy := rfl
@[simp] theorem State.setYK_reg_iz (s : State) (v : Ext) : (s.setYK v).reg.iz = s.reg.iz := rfl
@[simp] theorem State.setYK_reg_sp (s : State) (v : Ext) : (s.setYK v).reg.sp = s.reg.sp := rfl
@[simp] theorem State.setYK_reg_pc (s : State) (v : Ext) : (s.setYK v).reg.pc = s.reg.pc := rfl
@[simp] theorem State.setYK_reg_ccr (s : State) (v : Ext) : (s.setYK v).reg.ccr = s.reg.ccr := rfl
@[simp] theorem State.setYK_reg_ek (s : State) (v : Ext) : (s.setYK v).reg.ek = s.reg.ek := rfl
@[simp] theorem State.setYK_reg_xk (s : State) (v : Ext) : (s.setYK v).reg.xk = s.reg.xk := rfl
@[simp] theorem State.setYK_reg_yk (s : State) (v : Ext) : (s.setYK v).reg.yk = v := rfl
@[simp] theorem State.setYK_reg_zk (s : State) (v : Ext) : (s.setYK v).reg.zk = s.reg.zk := rfl
@[simp] theorem State.setYK_reg_sk (s : State) (v : Ext) : (s.setYK v).reg.sk = s.reg.sk := rfl
@[simp] theorem State.setYK_mac (s : State) (v : Ext) : (s.setYK v).mac = s.mac := rfl
@[simp] theorem State.setYK_ctl (s : State) (v : Ext) : (s.setYK v).ctl = s.ctl := rfl
@[simp] theorem State.setYK_mem (s : State) (v : Ext) : (s.setYK v).mem = s.mem := rfl
@[simp] theorem State.setYK_prog (s : State) (v : Ext) : (s.setYK v).prog = s.prog := rfl
@[simp] theorem State.setYK_free (s : State) (v : Ext) : (s.setYK v).free = s.free := rfl
@[simp] theorem State.setYK_stale (s : State) (v : Ext) : (s.setYK v).stale = s.stale := rfl
@[simp] theorem State.setYK_begun (s : State) (v : Ext) : (s.setYK v).begun = s.begun := rfl
@[simp] theorem State.setYK_plat (s : State) (v : Ext) : (s.setYK v).plat = s.plat := rfl

@[simp] theorem State.setZK_reg_a (s : State) (v : Ext) : (s.setZK v).reg.a = s.reg.a := rfl
@[simp] theorem State.setZK_reg_b (s : State) (v : Ext) : (s.setZK v).reg.b = s.reg.b := rfl
@[simp] theorem State.setZK_reg_e (s : State) (v : Ext) : (s.setZK v).reg.e = s.reg.e := rfl
@[simp] theorem State.setZK_reg_ix (s : State) (v : Ext) : (s.setZK v).reg.ix = s.reg.ix := rfl
@[simp] theorem State.setZK_reg_iy (s : State) (v : Ext) : (s.setZK v).reg.iy = s.reg.iy := rfl
@[simp] theorem State.setZK_reg_iz (s : State) (v : Ext) : (s.setZK v).reg.iz = s.reg.iz := rfl
@[simp] theorem State.setZK_reg_sp (s : State) (v : Ext) : (s.setZK v).reg.sp = s.reg.sp := rfl
@[simp] theorem State.setZK_reg_pc (s : State) (v : Ext) : (s.setZK v).reg.pc = s.reg.pc := rfl
@[simp] theorem State.setZK_reg_ccr (s : State) (v : Ext) : (s.setZK v).reg.ccr = s.reg.ccr := rfl
@[simp] theorem State.setZK_reg_ek (s : State) (v : Ext) : (s.setZK v).reg.ek = s.reg.ek := rfl
@[simp] theorem State.setZK_reg_xk (s : State) (v : Ext) : (s.setZK v).reg.xk = s.reg.xk := rfl
@[simp] theorem State.setZK_reg_yk (s : State) (v : Ext) : (s.setZK v).reg.yk = s.reg.yk := rfl
@[simp] theorem State.setZK_reg_zk (s : State) (v : Ext) : (s.setZK v).reg.zk = v := rfl
@[simp] theorem State.setZK_reg_sk (s : State) (v : Ext) : (s.setZK v).reg.sk = s.reg.sk := rfl
@[simp] theorem State.setZK_mac (s : State) (v : Ext) : (s.setZK v).mac = s.mac := rfl
@[simp] theorem State.setZK_ctl (s : State) (v : Ext) : (s.setZK v).ctl = s.ctl := rfl
@[simp] theorem State.setZK_mem (s : State) (v : Ext) : (s.setZK v).mem = s.mem := rfl
@[simp] theorem State.setZK_prog (s : State) (v : Ext) : (s.setZK v).prog = s.prog := rfl
@[simp] theorem State.setZK_free (s : State) (v : Ext) : (s.setZK v).free = s.free := rfl
@[simp] theorem State.setZK_stale (s : State) (v : Ext) : (s.setZK v).stale = s.stale := rfl
@[simp] theorem State.setZK_begun (s : State) (v : Ext) : (s.setZK v).begun = s.begun := rfl
@[simp] theorem State.setZK_plat (s : State) (v : Ext) : (s.setZK v).plat = s.plat := rfl

@[simp] theorem State.setSK_reg_a (s : State) (v : Ext) : (s.setSK v).reg.a = s.reg.a := rfl
@[simp] theorem State.setSK_reg_b (s : State) (v : Ext) : (s.setSK v).reg.b = s.reg.b := rfl
@[simp] theorem State.setSK_reg_e (s : State) (v : Ext) : (s.setSK v).reg.e = s.reg.e := rfl
@[simp] theorem State.setSK_reg_ix (s : State) (v : Ext) : (s.setSK v).reg.ix = s.reg.ix := rfl
@[simp] theorem State.setSK_reg_iy (s : State) (v : Ext) : (s.setSK v).reg.iy = s.reg.iy := rfl
@[simp] theorem State.setSK_reg_iz (s : State) (v : Ext) : (s.setSK v).reg.iz = s.reg.iz := rfl
@[simp] theorem State.setSK_reg_sp (s : State) (v : Ext) : (s.setSK v).reg.sp = s.reg.sp := rfl
@[simp] theorem State.setSK_reg_pc (s : State) (v : Ext) : (s.setSK v).reg.pc = s.reg.pc := rfl
@[simp] theorem State.setSK_reg_ccr (s : State) (v : Ext) : (s.setSK v).reg.ccr = s.reg.ccr := rfl
@[simp] theorem State.setSK_reg_ek (s : State) (v : Ext) : (s.setSK v).reg.ek = s.reg.ek := rfl
@[simp] theorem State.setSK_reg_xk (s : State) (v : Ext) : (s.setSK v).reg.xk = s.reg.xk := rfl
@[simp] theorem State.setSK_reg_yk (s : State) (v : Ext) : (s.setSK v).reg.yk = s.reg.yk := rfl
@[simp] theorem State.setSK_reg_zk (s : State) (v : Ext) : (s.setSK v).reg.zk = s.reg.zk := rfl
@[simp] theorem State.setSK_reg_sk (s : State) (v : Ext) : (s.setSK v).reg.sk = v := rfl
@[simp] theorem State.setSK_mac (s : State) (v : Ext) : (s.setSK v).mac = s.mac := rfl
@[simp] theorem State.setSK_ctl (s : State) (v : Ext) : (s.setSK v).ctl = s.ctl := rfl
@[simp] theorem State.setSK_mem (s : State) (v : Ext) : (s.setSK v).mem = s.mem := rfl
@[simp] theorem State.setSK_prog (s : State) (v : Ext) : (s.setSK v).prog = s.prog := rfl
@[simp] theorem State.setSK_free (s : State) (v : Ext) : (s.setSK v).free = s.free := rfl
@[simp] theorem State.setSK_stale (s : State) (v : Ext) : (s.setSK v).stale = s.stale := rfl
@[simp] theorem State.setSK_begun (s : State) (v : Ext) : (s.setSK v).begun = s.begun := rfl
@[simp] theorem State.setSK_plat (s : State) (v : Ext) : (s.setSK v).plat = s.plat := rfl

@[simp] theorem State.setHR_reg (s : State) (v : Word) : (s.setHR v).reg = s.reg := rfl
@[simp] theorem State.setHR_mac_hr (s : State) (v : Word) : (s.setHR v).mac.hr = v := rfl
@[simp] theorem State.setHR_mac_ir (s : State) (v : Word) : (s.setHR v).mac.ir = s.mac.ir := rfl
@[simp] theorem State.setHR_mac_am (s : State) (v : Word) : (s.setHR v).mac.am = s.mac.am := rfl
@[simp] theorem State.setHR_mac_xmsk (s : State) (v : Word) : (s.setHR v).mac.xmsk = s.mac.xmsk := rfl
@[simp] theorem State.setHR_mac_ymsk (s : State) (v : Word) : (s.setHR v).mac.ymsk = s.mac.ymsk := rfl
@[simp] theorem State.setHR_mac_sl (s : State) (v : Word) : (s.setHR v).mac.sl = s.mac.sl := rfl
@[simp] theorem State.setHR_ctl (s : State) (v : Word) : (s.setHR v).ctl = s.ctl := rfl
@[simp] theorem State.setHR_mem (s : State) (v : Word) : (s.setHR v).mem = s.mem := rfl
@[simp] theorem State.setHR_prog (s : State) (v : Word) : (s.setHR v).prog = s.prog := rfl
@[simp] theorem State.setHR_free (s : State) (v : Word) : (s.setHR v).free = s.free := rfl
@[simp] theorem State.setHR_stale (s : State) (v : Word) : (s.setHR v).stale = s.stale := rfl
@[simp] theorem State.setHR_begun (s : State) (v : Word) : (s.setHR v).begun = s.begun := rfl
@[simp] theorem State.setHR_plat (s : State) (v : Word) : (s.setHR v).plat = s.plat := rfl

@[simp] theorem State.setIR_reg (s : State) (v : Word) : (s.setIR v).reg = s.reg := rfl
@[simp] theorem State.setIR_mac_hr (s : State) (v : Word) : (s.setIR v).mac.hr = s.mac.hr := rfl
@[simp] theorem State.setIR_mac_ir (s : State) (v : Word) : (s.setIR v).mac.ir = v := rfl
@[simp] theorem State.setIR_mac_am (s : State) (v : Word) : (s.setIR v).mac.am = s.mac.am := rfl
@[simp] theorem State.setIR_mac_xmsk (s : State) (v : Word) : (s.setIR v).mac.xmsk = s.mac.xmsk := rfl
@[simp] theorem State.setIR_mac_ymsk (s : State) (v : Word) : (s.setIR v).mac.ymsk = s.mac.ymsk := rfl
@[simp] theorem State.setIR_mac_sl (s : State) (v : Word) : (s.setIR v).mac.sl = s.mac.sl := rfl
@[simp] theorem State.setIR_ctl (s : State) (v : Word) : (s.setIR v).ctl = s.ctl := rfl
@[simp] theorem State.setIR_mem (s : State) (v : Word) : (s.setIR v).mem = s.mem := rfl
@[simp] theorem State.setIR_prog (s : State) (v : Word) : (s.setIR v).prog = s.prog := rfl
@[simp] theorem State.setIR_free (s : State) (v : Word) : (s.setIR v).free = s.free := rfl
@[simp] theorem State.setIR_stale (s : State) (v : Word) : (s.setIR v).stale = s.stale := rfl
@[simp] theorem State.setIR_begun (s : State) (v : Word) : (s.setIR v).begun = s.begun := rfl
@[simp] theorem State.setIR_plat (s : State) (v : Word) : (s.setIR v).plat = s.plat := rfl

@[simp] theorem State.setAM_reg (s : State) (v : Acc) : (s.setAM v).reg = s.reg := rfl
@[simp] theorem State.setAM_mac_hr (s : State) (v : Acc) : (s.setAM v).mac.hr = s.mac.hr := rfl
@[simp] theorem State.setAM_mac_ir (s : State) (v : Acc) : (s.setAM v).mac.ir = s.mac.ir := rfl
@[simp] theorem State.setAM_mac_am (s : State) (v : Acc) : (s.setAM v).mac.am = v := rfl
@[simp] theorem State.setAM_mac_xmsk (s : State) (v : Acc) : (s.setAM v).mac.xmsk = s.mac.xmsk := rfl
@[simp] theorem State.setAM_mac_ymsk (s : State) (v : Acc) : (s.setAM v).mac.ymsk = s.mac.ymsk := rfl
@[simp] theorem State.setAM_mac_sl (s : State) (v : Acc) : (s.setAM v).mac.sl = s.mac.sl := rfl
@[simp] theorem State.setAM_ctl (s : State) (v : Acc) : (s.setAM v).ctl = s.ctl := rfl
@[simp] theorem State.setAM_mem (s : State) (v : Acc) : (s.setAM v).mem = s.mem := rfl
@[simp] theorem State.setAM_prog (s : State) (v : Acc) : (s.setAM v).prog = s.prog := rfl
@[simp] theorem State.setAM_free (s : State) (v : Acc) : (s.setAM v).free = s.free := rfl
@[simp] theorem State.setAM_stale (s : State) (v : Acc) : (s.setAM v).stale = s.stale := rfl
@[simp] theorem State.setAM_begun (s : State) (v : Acc) : (s.setAM v).begun = s.begun := rfl
@[simp] theorem State.setAM_plat (s : State) (v : Acc) : (s.setAM v).plat = s.plat := rfl

@[simp] theorem State.setXMSK_reg (s : State) (v : Byte) : (s.setXMSK v).reg = s.reg := rfl
@[simp] theorem State.setXMSK_mac_hr (s : State) (v : Byte) : (s.setXMSK v).mac.hr = s.mac.hr := rfl
@[simp] theorem State.setXMSK_mac_ir (s : State) (v : Byte) : (s.setXMSK v).mac.ir = s.mac.ir := rfl
@[simp] theorem State.setXMSK_mac_am (s : State) (v : Byte) : (s.setXMSK v).mac.am = s.mac.am := rfl
@[simp] theorem State.setXMSK_mac_xmsk (s : State) (v : Byte) : (s.setXMSK v).mac.xmsk = v := rfl
@[simp] theorem State.setXMSK_mac_ymsk (s : State) (v : Byte) : (s.setXMSK v).mac.ymsk = s.mac.ymsk := rfl
@[simp] theorem State.setXMSK_mac_sl (s : State) (v : Byte) : (s.setXMSK v).mac.sl = s.mac.sl := rfl
@[simp] theorem State.setXMSK_ctl (s : State) (v : Byte) : (s.setXMSK v).ctl = s.ctl := rfl
@[simp] theorem State.setXMSK_mem (s : State) (v : Byte) : (s.setXMSK v).mem = s.mem := rfl
@[simp] theorem State.setXMSK_prog (s : State) (v : Byte) : (s.setXMSK v).prog = s.prog := rfl
@[simp] theorem State.setXMSK_free (s : State) (v : Byte) : (s.setXMSK v).free = s.free := rfl
@[simp] theorem State.setXMSK_stale (s : State) (v : Byte) : (s.setXMSK v).stale = s.stale := rfl
@[simp] theorem State.setXMSK_begun (s : State) (v : Byte) : (s.setXMSK v).begun = s.begun := rfl
@[simp] theorem State.setXMSK_plat (s : State) (v : Byte) : (s.setXMSK v).plat = s.plat := rfl

@[simp] theorem State.setYMSK_reg (s : State) (v : Byte) : (s.setYMSK v).reg = s.reg := rfl
@[simp] theorem State.setYMSK_mac_hr (s : State) (v : Byte) : (s.setYMSK v).mac.hr = s.mac.hr := rfl
@[simp] theorem State.setYMSK_mac_ir (s : State) (v : Byte) : (s.setYMSK v).mac.ir = s.mac.ir := rfl
@[simp] theorem State.setYMSK_mac_am (s : State) (v : Byte) : (s.setYMSK v).mac.am = s.mac.am := rfl
@[simp] theorem State.setYMSK_mac_xmsk (s : State) (v : Byte) : (s.setYMSK v).mac.xmsk = s.mac.xmsk := rfl
@[simp] theorem State.setYMSK_mac_ymsk (s : State) (v : Byte) : (s.setYMSK v).mac.ymsk = v := rfl
@[simp] theorem State.setYMSK_mac_sl (s : State) (v : Byte) : (s.setYMSK v).mac.sl = s.mac.sl := rfl
@[simp] theorem State.setYMSK_ctl (s : State) (v : Byte) : (s.setYMSK v).ctl = s.ctl := rfl
@[simp] theorem State.setYMSK_mem (s : State) (v : Byte) : (s.setYMSK v).mem = s.mem := rfl
@[simp] theorem State.setYMSK_prog (s : State) (v : Byte) : (s.setYMSK v).prog = s.prog := rfl
@[simp] theorem State.setYMSK_free (s : State) (v : Byte) : (s.setYMSK v).free = s.free := rfl
@[simp] theorem State.setYMSK_stale (s : State) (v : Byte) : (s.setYMSK v).stale = s.stale := rfl
@[simp] theorem State.setYMSK_begun (s : State) (v : Byte) : (s.setYMSK v).begun = s.begun := rfl
@[simp] theorem State.setYMSK_plat (s : State) (v : Byte) : (s.setYMSK v).plat = s.plat := rfl

@[simp] theorem State.setSL_reg (s : State) (v : Bool) : (s.setSL v).reg = s.reg := rfl
@[simp] theorem State.setSL_mac_hr (s : State) (v : Bool) : (s.setSL v).mac.hr = s.mac.hr := rfl
@[simp] theorem State.setSL_mac_ir (s : State) (v : Bool) : (s.setSL v).mac.ir = s.mac.ir := rfl
@[simp] theorem State.setSL_mac_am (s : State) (v : Bool) : (s.setSL v).mac.am = s.mac.am := rfl
@[simp] theorem State.setSL_mac_xmsk (s : State) (v : Bool) : (s.setSL v).mac.xmsk = s.mac.xmsk := rfl
@[simp] theorem State.setSL_mac_ymsk (s : State) (v : Bool) : (s.setSL v).mac.ymsk = s.mac.ymsk := rfl
@[simp] theorem State.setSL_mac_sl (s : State) (v : Bool) : (s.setSL v).mac.sl = v := rfl
@[simp] theorem State.setSL_ctl (s : State) (v : Bool) : (s.setSL v).ctl = s.ctl := rfl
@[simp] theorem State.setSL_mem (s : State) (v : Bool) : (s.setSL v).mem = s.mem := rfl
@[simp] theorem State.setSL_prog (s : State) (v : Bool) : (s.setSL v).prog = s.prog := rfl
@[simp] theorem State.setSL_free (s : State) (v : Bool) : (s.setSL v).free = s.free := rfl
@[simp] theorem State.setSL_stale (s : State) (v : Bool) : (s.setSL v).stale = s.stale := rfl
@[simp] theorem State.setSL_begun (s : State) (v : Bool) : (s.setSL v).begun = s.begun := rfl
@[simp] theorem State.setSL_plat (s : State) (v : Bool) : (s.setSL v).plat = s.plat := rfl

@[simp] theorem State.setRun_reg (s : State) (v : RunState) : (s.setRun v).reg = s.reg := rfl
@[simp] theorem State.setRun_mac (s : State) (v : RunState) : (s.setRun v).mac = s.mac := rfl
@[simp] theorem State.setRun_ctl_run (s : State) (v : RunState) : (s.setRun v).ctl.run = v := rfl
@[simp] theorem State.setRun_ctl_berrLatch (s : State) (v : RunState) : (s.setRun v).ctl.berrLatch = s.ctl.berrLatch := rfl
@[simp] theorem State.setRun_ctl_berrWindow (s : State) (v : RunState) : (s.setRun v).ctl.berrWindow = s.ctl.berrWindow := rfl
@[simp] theorem State.setRun_ctl_bkptLatch (s : State) (v : RunState) : (s.setRun v).ctl.bkptLatch = s.ctl.bkptLatch := rfl
@[simp] theorem State.setRun_ctl_nmiLatch (s : State) (v : RunState) : (s.setRun v).ctl.nmiLatch = s.ctl.nmiLatch := rfl
@[simp] theorem State.setRun_ctl_inhibit (s : State) (v : RunState) : (s.setRun v).ctl.inhibit = s.ctl.inhibit := rfl
@[simp] theorem State.setRun_ctl_bdmFlag (s : State) (v : RunState) : (s.setRun v).ctl.bdmFlag = s.ctl.bdmFlag := rfl
@[simp] theorem State.setRun_ctl_ebiIP (s : State) (v : RunState) : (s.setRun v).ctl.ebiIP = s.ctl.ebiIP := rfl
@[simp] theorem State.setRun_mem (s : State) (v : RunState) : (s.setRun v).mem = s.mem := rfl
@[simp] theorem State.setRun_prog (s : State) (v : RunState) : (s.setRun v).prog = s.prog := rfl
@[simp] theorem State.setRun_free (s : State) (v : RunState) : (s.setRun v).free = s.free := rfl
@[simp] theorem State.setRun_stale (s : State) (v : RunState) : (s.setRun v).stale = s.stale := rfl
@[simp] theorem State.setRun_begun (s : State) (v : RunState) : (s.setRun v).begun = s.begun := rfl
@[simp] theorem State.setRun_plat (s : State) (v : RunState) : (s.setRun v).plat = s.plat := rfl

@[simp] theorem State.setBerrLatch_reg (s : State) (v : Bool) : (s.setBerrLatch v).reg = s.reg := rfl
@[simp] theorem State.setBerrLatch_mac (s : State) (v : Bool) : (s.setBerrLatch v).mac = s.mac := rfl
@[simp] theorem State.setBerrLatch_ctl_run (s : State) (v : Bool) : (s.setBerrLatch v).ctl.run = s.ctl.run := rfl
@[simp] theorem State.setBerrLatch_ctl_berrLatch (s : State) (v : Bool) : (s.setBerrLatch v).ctl.berrLatch = v := rfl
@[simp] theorem State.setBerrLatch_ctl_berrWindow (s : State) (v : Bool) : (s.setBerrLatch v).ctl.berrWindow = s.ctl.berrWindow := rfl
@[simp] theorem State.setBerrLatch_ctl_bkptLatch (s : State) (v : Bool) : (s.setBerrLatch v).ctl.bkptLatch = s.ctl.bkptLatch := rfl
@[simp] theorem State.setBerrLatch_ctl_nmiLatch (s : State) (v : Bool) : (s.setBerrLatch v).ctl.nmiLatch = s.ctl.nmiLatch := rfl
@[simp] theorem State.setBerrLatch_ctl_inhibit (s : State) (v : Bool) : (s.setBerrLatch v).ctl.inhibit = s.ctl.inhibit := rfl
@[simp] theorem State.setBerrLatch_ctl_bdmFlag (s : State) (v : Bool) : (s.setBerrLatch v).ctl.bdmFlag = s.ctl.bdmFlag := rfl
@[simp] theorem State.setBerrLatch_ctl_ebiIP (s : State) (v : Bool) : (s.setBerrLatch v).ctl.ebiIP = s.ctl.ebiIP := rfl
@[simp] theorem State.setBerrLatch_mem (s : State) (v : Bool) : (s.setBerrLatch v).mem = s.mem := rfl
@[simp] theorem State.setBerrLatch_prog (s : State) (v : Bool) : (s.setBerrLatch v).prog = s.prog := rfl
@[simp] theorem State.setBerrLatch_free (s : State) (v : Bool) : (s.setBerrLatch v).free = s.free := rfl
@[simp] theorem State.setBerrLatch_stale (s : State) (v : Bool) : (s.setBerrLatch v).stale = s.stale := rfl
@[simp] theorem State.setBerrLatch_begun (s : State) (v : Bool) : (s.setBerrLatch v).begun = s.begun := rfl
@[simp] theorem State.setBerrLatch_plat (s : State) (v : Bool) : (s.setBerrLatch v).plat = s.plat := rfl

@[simp] theorem State.setBerrWindow_reg (s : State) (v : Bool) : (s.setBerrWindow v).reg = s.reg := rfl
@[simp] theorem State.setBerrWindow_mac (s : State) (v : Bool) : (s.setBerrWindow v).mac = s.mac := rfl
@[simp] theorem State.setBerrWindow_ctl_run (s : State) (v : Bool) : (s.setBerrWindow v).ctl.run = s.ctl.run := rfl
@[simp] theorem State.setBerrWindow_ctl_berrLatch (s : State) (v : Bool) : (s.setBerrWindow v).ctl.berrLatch = s.ctl.berrLatch := rfl
@[simp] theorem State.setBerrWindow_ctl_berrWindow (s : State) (v : Bool) : (s.setBerrWindow v).ctl.berrWindow = v := rfl
@[simp] theorem State.setBerrWindow_ctl_bkptLatch (s : State) (v : Bool) : (s.setBerrWindow v).ctl.bkptLatch = s.ctl.bkptLatch := rfl
@[simp] theorem State.setBerrWindow_ctl_nmiLatch (s : State) (v : Bool) : (s.setBerrWindow v).ctl.nmiLatch = s.ctl.nmiLatch := rfl
@[simp] theorem State.setBerrWindow_ctl_inhibit (s : State) (v : Bool) : (s.setBerrWindow v).ctl.inhibit = s.ctl.inhibit := rfl
@[simp] theorem State.setBerrWindow_ctl_bdmFlag (s : State) (v : Bool) : (s.setBerrWindow v).ctl.bdmFlag = s.ctl.bdmFlag := rfl
@[simp] theorem State.setBerrWindow_ctl_ebiIP (s : State) (v : Bool) : (s.setBerrWindow v).ctl.ebiIP = s.ctl.ebiIP := rfl
@[simp] theorem State.setBerrWindow_mem (s : State) (v : Bool) : (s.setBerrWindow v).mem = s.mem := rfl
@[simp] theorem State.setBerrWindow_prog (s : State) (v : Bool) : (s.setBerrWindow v).prog = s.prog := rfl
@[simp] theorem State.setBerrWindow_free (s : State) (v : Bool) : (s.setBerrWindow v).free = s.free := rfl
@[simp] theorem State.setBerrWindow_stale (s : State) (v : Bool) : (s.setBerrWindow v).stale = s.stale := rfl
@[simp] theorem State.setBerrWindow_begun (s : State) (v : Bool) : (s.setBerrWindow v).begun = s.begun := rfl
@[simp] theorem State.setBerrWindow_plat (s : State) (v : Bool) : (s.setBerrWindow v).plat = s.plat := rfl

@[simp] theorem State.setBkptLatch_reg (s : State) (v : Bool) : (s.setBkptLatch v).reg = s.reg := rfl
@[simp] theorem State.setBkptLatch_mac (s : State) (v : Bool) : (s.setBkptLatch v).mac = s.mac := rfl
@[simp] theorem State.setBkptLatch_ctl_run (s : State) (v : Bool) : (s.setBkptLatch v).ctl.run = s.ctl.run := rfl
@[simp] theorem State.setBkptLatch_ctl_berrLatch (s : State) (v : Bool) : (s.setBkptLatch v).ctl.berrLatch = s.ctl.berrLatch := rfl
@[simp] theorem State.setBkptLatch_ctl_berrWindow (s : State) (v : Bool) : (s.setBkptLatch v).ctl.berrWindow = s.ctl.berrWindow := rfl
@[simp] theorem State.setBkptLatch_ctl_bkptLatch (s : State) (v : Bool) : (s.setBkptLatch v).ctl.bkptLatch = v := rfl
@[simp] theorem State.setBkptLatch_ctl_nmiLatch (s : State) (v : Bool) : (s.setBkptLatch v).ctl.nmiLatch = s.ctl.nmiLatch := rfl
@[simp] theorem State.setBkptLatch_ctl_inhibit (s : State) (v : Bool) : (s.setBkptLatch v).ctl.inhibit = s.ctl.inhibit := rfl
@[simp] theorem State.setBkptLatch_ctl_bdmFlag (s : State) (v : Bool) : (s.setBkptLatch v).ctl.bdmFlag = s.ctl.bdmFlag := rfl
@[simp] theorem State.setBkptLatch_ctl_ebiIP (s : State) (v : Bool) : (s.setBkptLatch v).ctl.ebiIP = s.ctl.ebiIP := rfl
@[simp] theorem State.setBkptLatch_mem (s : State) (v : Bool) : (s.setBkptLatch v).mem = s.mem := rfl
@[simp] theorem State.setBkptLatch_prog (s : State) (v : Bool) : (s.setBkptLatch v).prog = s.prog := rfl
@[simp] theorem State.setBkptLatch_free (s : State) (v : Bool) : (s.setBkptLatch v).free = s.free := rfl
@[simp] theorem State.setBkptLatch_stale (s : State) (v : Bool) : (s.setBkptLatch v).stale = s.stale := rfl
@[simp] theorem State.setBkptLatch_begun (s : State) (v : Bool) : (s.setBkptLatch v).begun = s.begun := rfl
@[simp] theorem State.setBkptLatch_plat (s : State) (v : Bool) : (s.setBkptLatch v).plat = s.plat := rfl

@[simp] theorem State.setNmiLatch_reg (s : State) (v : Bool) : (s.setNmiLatch v).reg = s.reg := rfl
@[simp] theorem State.setNmiLatch_mac (s : State) (v : Bool) : (s.setNmiLatch v).mac = s.mac := rfl
@[simp] theorem State.setNmiLatch_ctl_run (s : State) (v : Bool) : (s.setNmiLatch v).ctl.run = s.ctl.run := rfl
@[simp] theorem State.setNmiLatch_ctl_berrLatch (s : State) (v : Bool) : (s.setNmiLatch v).ctl.berrLatch = s.ctl.berrLatch := rfl
@[simp] theorem State.setNmiLatch_ctl_berrWindow (s : State) (v : Bool) : (s.setNmiLatch v).ctl.berrWindow = s.ctl.berrWindow := rfl
@[simp] theorem State.setNmiLatch_ctl_bkptLatch (s : State) (v : Bool) : (s.setNmiLatch v).ctl.bkptLatch = s.ctl.bkptLatch := rfl
@[simp] theorem State.setNmiLatch_ctl_nmiLatch (s : State) (v : Bool) : (s.setNmiLatch v).ctl.nmiLatch = v := rfl
@[simp] theorem State.setNmiLatch_ctl_inhibit (s : State) (v : Bool) : (s.setNmiLatch v).ctl.inhibit = s.ctl.inhibit := rfl
@[simp] theorem State.setNmiLatch_ctl_bdmFlag (s : State) (v : Bool) : (s.setNmiLatch v).ctl.bdmFlag = s.ctl.bdmFlag := rfl
@[simp] theorem State.setNmiLatch_ctl_ebiIP (s : State) (v : Bool) : (s.setNmiLatch v).ctl.ebiIP = s.ctl.ebiIP := rfl
@[simp] theorem State.setNmiLatch_mem (s : State) (v : Bool) : (s.setNmiLatch v).mem = s.mem := rfl
@[simp] theorem State.setNmiLatch_prog (s : State) (v : Bool) : (s.setNmiLatch v).prog = s.prog := rfl
@[simp] theorem State.setNmiLatch_free (s : State) (v : Bool) : (s.setNmiLatch v).free = s.free := rfl
@[simp] theorem State.setNmiLatch_stale (s : State) (v : Bool) : (s.setNmiLatch v).stale = s.stale := rfl
@[simp] theorem State.setNmiLatch_begun (s : State) (v : Bool) : (s.setNmiLatch v).begun = s.begun := rfl
@[simp] theorem State.setNmiLatch_plat (s : State) (v : Bool) : (s.setNmiLatch v).plat = s.plat := rfl

@[simp] theorem State.setInhibit_reg (s : State) (v : Bool) : (s.setInhibit v).reg = s.reg := rfl
@[simp] theorem State.setInhibit_mac (s : State) (v : Bool) : (s.setInhibit v).mac = s.mac := rfl
@[simp] theorem State.setInhibit_ctl_run (s : State) (v : Bool) : (s.setInhibit v).ctl.run = s.ctl.run := rfl
@[simp] theorem State.setInhibit_ctl_berrLatch (s : State) (v : Bool) : (s.setInhibit v).ctl.berrLatch = s.ctl.berrLatch := rfl
@[simp] theorem State.setInhibit_ctl_berrWindow (s : State) (v : Bool) : (s.setInhibit v).ctl.berrWindow = s.ctl.berrWindow := rfl
@[simp] theorem State.setInhibit_ctl_bkptLatch (s : State) (v : Bool) : (s.setInhibit v).ctl.bkptLatch = s.ctl.bkptLatch := rfl
@[simp] theorem State.setInhibit_ctl_nmiLatch (s : State) (v : Bool) : (s.setInhibit v).ctl.nmiLatch = s.ctl.nmiLatch := rfl
@[simp] theorem State.setInhibit_ctl_inhibit (s : State) (v : Bool) : (s.setInhibit v).ctl.inhibit = v := rfl
@[simp] theorem State.setInhibit_ctl_bdmFlag (s : State) (v : Bool) : (s.setInhibit v).ctl.bdmFlag = s.ctl.bdmFlag := rfl
@[simp] theorem State.setInhibit_ctl_ebiIP (s : State) (v : Bool) : (s.setInhibit v).ctl.ebiIP = s.ctl.ebiIP := rfl
@[simp] theorem State.setInhibit_mem (s : State) (v : Bool) : (s.setInhibit v).mem = s.mem := rfl
@[simp] theorem State.setInhibit_prog (s : State) (v : Bool) : (s.setInhibit v).prog = s.prog := rfl
@[simp] theorem State.setInhibit_free (s : State) (v : Bool) : (s.setInhibit v).free = s.free := rfl
@[simp] theorem State.setInhibit_stale (s : State) (v : Bool) : (s.setInhibit v).stale = s.stale := rfl
@[simp] theorem State.setInhibit_begun (s : State) (v : Bool) : (s.setInhibit v).begun = s.begun := rfl
@[simp] theorem State.setInhibit_plat (s : State) (v : Bool) : (s.setInhibit v).plat = s.plat := rfl

@[simp] theorem State.setEbiIP_reg (s : State) (v : BitVec 3) : (s.setEbiIP v).reg = s.reg := rfl
@[simp] theorem State.setEbiIP_mac (s : State) (v : BitVec 3) : (s.setEbiIP v).mac = s.mac := rfl
@[simp] theorem State.setEbiIP_ctl_run (s : State) (v : BitVec 3) : (s.setEbiIP v).ctl.run = s.ctl.run := rfl
@[simp] theorem State.setEbiIP_ctl_berrLatch (s : State) (v : BitVec 3) : (s.setEbiIP v).ctl.berrLatch = s.ctl.berrLatch := rfl
@[simp] theorem State.setEbiIP_ctl_berrWindow (s : State) (v : BitVec 3) : (s.setEbiIP v).ctl.berrWindow = s.ctl.berrWindow := rfl
@[simp] theorem State.setEbiIP_ctl_bkptLatch (s : State) (v : BitVec 3) : (s.setEbiIP v).ctl.bkptLatch = s.ctl.bkptLatch := rfl
@[simp] theorem State.setEbiIP_ctl_nmiLatch (s : State) (v : BitVec 3) : (s.setEbiIP v).ctl.nmiLatch = s.ctl.nmiLatch := rfl
@[simp] theorem State.setEbiIP_ctl_inhibit (s : State) (v : BitVec 3) : (s.setEbiIP v).ctl.inhibit = s.ctl.inhibit := rfl
@[simp] theorem State.setEbiIP_ctl_bdmFlag (s : State) (v : BitVec 3) : (s.setEbiIP v).ctl.bdmFlag = s.ctl.bdmFlag := rfl
@[simp] theorem State.setEbiIP_ctl_ebiIP (s : State) (v : BitVec 3) : (s.setEbiIP v).ctl.ebiIP = v := rfl
@[simp] theorem State.setEbiIP_mem (s : State) (v : BitVec 3) : (s.setEbiIP v).mem = s.mem := rfl
@[simp] theorem State.setEbiIP_prog (s : State) (v : BitVec 3) : (s.setEbiIP v).prog = s.prog := rfl
@[simp] theorem State.setEbiIP_free (s : State) (v : BitVec 3) : (s.setEbiIP v).free = s.free := rfl
@[simp] theorem State.setEbiIP_stale (s : State) (v : BitVec 3) : (s.setEbiIP v).stale = s.stale := rfl
@[simp] theorem State.setEbiIP_begun (s : State) (v : BitVec 3) : (s.setEbiIP v).begun = s.begun := rfl
@[simp] theorem State.setEbiIP_plat (s : State) (v : BitVec 3) : (s.setEbiIP v).plat = s.plat := rfl

@[simp] theorem State.setD_reg_a (s : State) (v : Word) : (s.setD v).reg.a = hi v := rfl
@[simp] theorem State.setD_reg_b (s : State) (v : Word) : (s.setD v).reg.b = lo v := rfl
@[simp] theorem State.setD_reg_e (s : State) (v : Word) : (s.setD v).reg.e = s.reg.e := rfl
@[simp] theorem State.setD_reg_ix (s : State) (v : Word) : (s.setD v).reg.ix = s.reg.ix := rfl
@[simp] theorem State.setD_reg_iy (s : State) (v : Word) : (s.setD v).reg.iy = s.reg.iy := rfl
@[simp] theorem State.setD_reg_iz (s : State) (v : Word) : (s.setD v).reg.iz = s.reg.iz := rfl
@[simp] theorem State.setD_reg_sp (s : State) (v : Word) : (s.setD v).reg.sp = s.reg.sp := rfl
@[simp] theorem State.setD_reg_pc (s : State) (v : Word) : (s.setD v).reg.pc = s.reg.pc := rfl
@[simp] theorem State.setD_reg_ccr (s : State) (v : Word) : (s.setD v).reg.ccr = s.reg.ccr := rfl
@[simp] theorem State.setD_reg_ek (s : State) (v : Word) : (s.setD v).reg.ek = s.reg.ek := rfl
@[simp] theorem State.setD_reg_xk (s : State) (v : Word) : (s.setD v).reg.xk = s.reg.xk := rfl
@[simp] theorem State.setD_reg_yk (s : State) (v : Word) : (s.setD v).reg.yk = s.reg.yk := rfl
@[simp] theorem State.setD_reg_zk (s : State) (v : Word) : (s.setD v).reg.zk = s.reg.zk := rfl
@[simp] theorem State.setD_reg_sk (s : State) (v : Word) : (s.setD v).reg.sk = s.reg.sk := rfl
@[simp] theorem State.setD_mac (s : State) (v : Word) : (s.setD v).mac = s.mac := rfl
@[simp] theorem State.setD_ctl (s : State) (v : Word) : (s.setD v).ctl = s.ctl := rfl
@[simp] theorem State.setD_mem (s : State) (v : Word) : (s.setD v).mem = s.mem := rfl
@[simp] theorem State.setD_prog (s : State) (v : Word) : (s.setD v).prog = s.prog := rfl
@[simp] theorem State.setD_free (s : State) (v : Word) : (s.setD v).free = s.free := rfl
@[simp] theorem State.setD_stale (s : State) (v : Word) : (s.setD v).stale = s.stale := rfl
@[simp] theorem State.setD_begun (s : State) (v : Word) : (s.setD v).begun = s.begun := rfl
@[simp] theorem State.setD_plat (s : State) (v : Word) : (s.setD v).plat = s.plat := rfl

@[simp] theorem State.setPkpc_reg_a (s : State) (v : Addr) : (s.setPkpc v).reg.a = s.reg.a := rfl
@[simp] theorem State.setPkpc_reg_b (s : State) (v : Addr) : (s.setPkpc v).reg.b = s.reg.b := rfl
@[simp] theorem State.setPkpc_reg_e (s : State) (v : Addr) : (s.setPkpc v).reg.e = s.reg.e := rfl
@[simp] theorem State.setPkpc_reg_ix (s : State) (v : Addr) : (s.setPkpc v).reg.ix = s.reg.ix := rfl
@[simp] theorem State.setPkpc_reg_iy (s : State) (v : Addr) : (s.setPkpc v).reg.iy = s.reg.iy := rfl
@[simp] theorem State.setPkpc_reg_iz (s : State) (v : Addr) : (s.setPkpc v).reg.iz = s.reg.iz := rfl
@[simp] theorem State.setPkpc_reg_sp (s : State) (v : Addr) : (s.setPkpc v).reg.sp = s.reg.sp := rfl
@[simp] theorem State.setPkpc_reg_pc (s : State) (v : Addr) : (s.setPkpc v).reg.pc = offset v := rfl
@[simp] theorem State.setPkpc_reg_ccr (s : State) (v : Addr) : (s.setPkpc v).reg.ccr = withPK (bank v) s.reg.ccr := rfl
@[simp] theorem State.setPkpc_reg_ek (s : State) (v : Addr) : (s.setPkpc v).reg.ek = s.reg.ek := rfl
@[simp] theorem State.setPkpc_reg_xk (s : State) (v : Addr) : (s.setPkpc v).reg.xk = s.reg.xk := rfl
@[simp] theorem State.setPkpc_reg_yk (s : State) (v : Addr) : (s.setPkpc v).reg.yk = s.reg.yk := rfl
@[simp] theorem State.setPkpc_reg_zk (s : State) (v : Addr) : (s.setPkpc v).reg.zk = s.reg.zk := rfl
@[simp] theorem State.setPkpc_reg_sk (s : State) (v : Addr) : (s.setPkpc v).reg.sk = s.reg.sk := rfl
@[simp] theorem State.setPkpc_mac (s : State) (v : Addr) : (s.setPkpc v).mac = s.mac := rfl
@[simp] theorem State.setPkpc_ctl (s : State) (v : Addr) : (s.setPkpc v).ctl = s.ctl := rfl
@[simp] theorem State.setPkpc_mem (s : State) (v : Addr) : (s.setPkpc v).mem = s.mem := rfl
@[simp] theorem State.setPkpc_prog (s : State) (v : Addr) : (s.setPkpc v).prog = s.prog := rfl
@[simp] theorem State.setPkpc_free (s : State) (v : Addr) : (s.setPkpc v).free = s.free := rfl
@[simp] theorem State.setPkpc_stale (s : State) (v : Addr) : (s.setPkpc v).stale = s.stale := rfl
@[simp] theorem State.setPkpc_begun (s : State) (v : Addr) : (s.setPkpc v).begun = s.begun := rfl
@[simp] theorem State.setPkpc_plat (s : State) (v : Addr) : (s.setPkpc v).plat = s.plat := rfl

@[simp] theorem State.setXkix_reg_a (s : State) (v : Addr) : (s.setXkix v).reg.a = s.reg.a := rfl
@[simp] theorem State.setXkix_reg_b (s : State) (v : Addr) : (s.setXkix v).reg.b = s.reg.b := rfl
@[simp] theorem State.setXkix_reg_e (s : State) (v : Addr) : (s.setXkix v).reg.e = s.reg.e := rfl
@[simp] theorem State.setXkix_reg_ix (s : State) (v : Addr) : (s.setXkix v).reg.ix = offset v := rfl
@[simp] theorem State.setXkix_reg_iy (s : State) (v : Addr) : (s.setXkix v).reg.iy = s.reg.iy := rfl
@[simp] theorem State.setXkix_reg_iz (s : State) (v : Addr) : (s.setXkix v).reg.iz = s.reg.iz := rfl
@[simp] theorem State.setXkix_reg_sp (s : State) (v : Addr) : (s.setXkix v).reg.sp = s.reg.sp := rfl
@[simp] theorem State.setXkix_reg_pc (s : State) (v : Addr) : (s.setXkix v).reg.pc = s.reg.pc := rfl
@[simp] theorem State.setXkix_reg_ccr (s : State) (v : Addr) : (s.setXkix v).reg.ccr = s.reg.ccr := rfl
@[simp] theorem State.setXkix_reg_ek (s : State) (v : Addr) : (s.setXkix v).reg.ek = s.reg.ek := rfl
@[simp] theorem State.setXkix_reg_xk (s : State) (v : Addr) : (s.setXkix v).reg.xk = bank v := rfl
@[simp] theorem State.setXkix_reg_yk (s : State) (v : Addr) : (s.setXkix v).reg.yk = s.reg.yk := rfl
@[simp] theorem State.setXkix_reg_zk (s : State) (v : Addr) : (s.setXkix v).reg.zk = s.reg.zk := rfl
@[simp] theorem State.setXkix_reg_sk (s : State) (v : Addr) : (s.setXkix v).reg.sk = s.reg.sk := rfl
@[simp] theorem State.setXkix_mac (s : State) (v : Addr) : (s.setXkix v).mac = s.mac := rfl
@[simp] theorem State.setXkix_ctl (s : State) (v : Addr) : (s.setXkix v).ctl = s.ctl := rfl
@[simp] theorem State.setXkix_mem (s : State) (v : Addr) : (s.setXkix v).mem = s.mem := rfl
@[simp] theorem State.setXkix_prog (s : State) (v : Addr) : (s.setXkix v).prog = s.prog := rfl
@[simp] theorem State.setXkix_free (s : State) (v : Addr) : (s.setXkix v).free = s.free := rfl
@[simp] theorem State.setXkix_stale (s : State) (v : Addr) : (s.setXkix v).stale = s.stale := rfl
@[simp] theorem State.setXkix_begun (s : State) (v : Addr) : (s.setXkix v).begun = s.begun := rfl
@[simp] theorem State.setXkix_plat (s : State) (v : Addr) : (s.setXkix v).plat = s.plat := rfl

@[simp] theorem State.setYkiy_reg_a (s : State) (v : Addr) : (s.setYkiy v).reg.a = s.reg.a := rfl
@[simp] theorem State.setYkiy_reg_b (s : State) (v : Addr) : (s.setYkiy v).reg.b = s.reg.b := rfl
@[simp] theorem State.setYkiy_reg_e (s : State) (v : Addr) : (s.setYkiy v).reg.e = s.reg.e := rfl
@[simp] theorem State.setYkiy_reg_ix (s : State) (v : Addr) : (s.setYkiy v).reg.ix = s.reg.ix := rfl
@[simp] theorem State.setYkiy_reg_iy (s : State) (v : Addr) : (s.setYkiy v).reg.iy = offset v := rfl
@[simp] theorem State.setYkiy_reg_iz (s : State) (v : Addr) : (s.setYkiy v).reg.iz = s.reg.iz := rfl
@[simp] theorem State.setYkiy_reg_sp (s : State) (v : Addr) : (s.setYkiy v).reg.sp = s.reg.sp := rfl
@[simp] theorem State.setYkiy_reg_pc (s : State) (v : Addr) : (s.setYkiy v).reg.pc = s.reg.pc := rfl
@[simp] theorem State.setYkiy_reg_ccr (s : State) (v : Addr) : (s.setYkiy v).reg.ccr = s.reg.ccr := rfl
@[simp] theorem State.setYkiy_reg_ek (s : State) (v : Addr) : (s.setYkiy v).reg.ek = s.reg.ek := rfl
@[simp] theorem State.setYkiy_reg_xk (s : State) (v : Addr) : (s.setYkiy v).reg.xk = s.reg.xk := rfl
@[simp] theorem State.setYkiy_reg_yk (s : State) (v : Addr) : (s.setYkiy v).reg.yk = bank v := rfl
@[simp] theorem State.setYkiy_reg_zk (s : State) (v : Addr) : (s.setYkiy v).reg.zk = s.reg.zk := rfl
@[simp] theorem State.setYkiy_reg_sk (s : State) (v : Addr) : (s.setYkiy v).reg.sk = s.reg.sk := rfl
@[simp] theorem State.setYkiy_mac (s : State) (v : Addr) : (s.setYkiy v).mac = s.mac := rfl
@[simp] theorem State.setYkiy_ctl (s : State) (v : Addr) : (s.setYkiy v).ctl = s.ctl := rfl
@[simp] theorem State.setYkiy_mem (s : State) (v : Addr) : (s.setYkiy v).mem = s.mem := rfl
@[simp] theorem State.setYkiy_prog (s : State) (v : Addr) : (s.setYkiy v).prog = s.prog := rfl
@[simp] theorem State.setYkiy_free (s : State) (v : Addr) : (s.setYkiy v).free = s.free := rfl
@[simp] theorem State.setYkiy_stale (s : State) (v : Addr) : (s.setYkiy v).stale = s.stale := rfl
@[simp] theorem State.setYkiy_begun (s : State) (v : Addr) : (s.setYkiy v).begun = s.begun := rfl
@[simp] theorem State.setYkiy_plat (s : State) (v : Addr) : (s.setYkiy v).plat = s.plat := rfl

@[simp] theorem State.setZkiz_reg_a (s : State) (v : Addr) : (s.setZkiz v).reg.a = s.reg.a := rfl
@[simp] theorem State.setZkiz_reg_b (s : State) (v : Addr) : (s.setZkiz v).reg.b = s.reg.b := rfl
@[simp] theorem State.setZkiz_reg_e (s : State) (v : Addr) : (s.setZkiz v).reg.e = s.reg.e := rfl
@[simp] theorem State.setZkiz_reg_ix (s : State) (v : Addr) : (s.setZkiz v).reg.ix = s.reg.ix := rfl
@[simp] theorem State.setZkiz_reg_iy (s : State) (v : Addr) : (s.setZkiz v).reg.iy = s.reg.iy := rfl
@[simp] theorem State.setZkiz_reg_iz (s : State) (v : Addr) : (s.setZkiz v).reg.iz = offset v := rfl
@[simp] theorem State.setZkiz_reg_sp (s : State) (v : Addr) : (s.setZkiz v).reg.sp = s.reg.sp := rfl
@[simp] theorem State.setZkiz_reg_pc (s : State) (v : Addr) : (s.setZkiz v).reg.pc = s.reg.pc := rfl
@[simp] theorem State.setZkiz_reg_ccr (s : State) (v : Addr) : (s.setZkiz v).reg.ccr = s.reg.ccr := rfl
@[simp] theorem State.setZkiz_reg_ek (s : State) (v : Addr) : (s.setZkiz v).reg.ek = s.reg.ek := rfl
@[simp] theorem State.setZkiz_reg_xk (s : State) (v : Addr) : (s.setZkiz v).reg.xk = s.reg.xk := rfl
@[simp] theorem State.setZkiz_reg_yk (s : State) (v : Addr) : (s.setZkiz v).reg.yk = s.reg.yk := rfl
@[simp] theorem State.setZkiz_reg_zk (s : State) (v : Addr) : (s.setZkiz v).reg.zk = bank v := rfl
@[simp] theorem State.setZkiz_reg_sk (s : State) (v : Addr) : (s.setZkiz v).reg.sk = s.reg.sk := rfl
@[simp] theorem State.setZkiz_mac (s : State) (v : Addr) : (s.setZkiz v).mac = s.mac := rfl
@[simp] theorem State.setZkiz_ctl (s : State) (v : Addr) : (s.setZkiz v).ctl = s.ctl := rfl
@[simp] theorem State.setZkiz_mem (s : State) (v : Addr) : (s.setZkiz v).mem = s.mem := rfl
@[simp] theorem State.setZkiz_prog (s : State) (v : Addr) : (s.setZkiz v).prog = s.prog := rfl
@[simp] theorem State.setZkiz_free (s : State) (v : Addr) : (s.setZkiz v).free = s.free := rfl
@[simp] theorem State.setZkiz_stale (s : State) (v : Addr) : (s.setZkiz v).stale = s.stale := rfl
@[simp] theorem State.setZkiz_begun (s : State) (v : Addr) : (s.setZkiz v).begun = s.begun := rfl
@[simp] theorem State.setZkiz_plat (s : State) (v : Addr) : (s.setZkiz v).plat = s.plat := rfl

@[simp] theorem State.setSksp_reg_a (s : State) (v : Addr) : (s.setSksp v).reg.a = s.reg.a := rfl
@[simp] theorem State.setSksp_reg_b (s : State) (v : Addr) : (s.setSksp v).reg.b = s.reg.b := rfl
@[simp] theorem State.setSksp_reg_e (s : State) (v : Addr) : (s.setSksp v).reg.e = s.reg.e := rfl
@[simp] theorem State.setSksp_reg_ix (s : State) (v : Addr) : (s.setSksp v).reg.ix = s.reg.ix := rfl
@[simp] theorem State.setSksp_reg_iy (s : State) (v : Addr) : (s.setSksp v).reg.iy = s.reg.iy := rfl
@[simp] theorem State.setSksp_reg_iz (s : State) (v : Addr) : (s.setSksp v).reg.iz = s.reg.iz := rfl
@[simp] theorem State.setSksp_reg_sp (s : State) (v : Addr) : (s.setSksp v).reg.sp = offset v := rfl
@[simp] theorem State.setSksp_reg_pc (s : State) (v : Addr) : (s.setSksp v).reg.pc = s.reg.pc := rfl
@[simp] theorem State.setSksp_reg_ccr (s : State) (v : Addr) : (s.setSksp v).reg.ccr = s.reg.ccr := rfl
@[simp] theorem State.setSksp_reg_ek (s : State) (v : Addr) : (s.setSksp v).reg.ek = s.reg.ek := rfl
@[simp] theorem State.setSksp_reg_xk (s : State) (v : Addr) : (s.setSksp v).reg.xk = s.reg.xk := rfl
@[simp] theorem State.setSksp_reg_yk (s : State) (v : Addr) : (s.setSksp v).reg.yk = s.reg.yk := rfl
@[simp] theorem State.setSksp_reg_zk (s : State) (v : Addr) : (s.setSksp v).reg.zk = s.reg.zk := rfl
@[simp] theorem State.setSksp_reg_sk (s : State) (v : Addr) : (s.setSksp v).reg.sk = bank v := rfl
@[simp] theorem State.setSksp_mac (s : State) (v : Addr) : (s.setSksp v).mac = s.mac := rfl
@[simp] theorem State.setSksp_ctl (s : State) (v : Addr) : (s.setSksp v).ctl = s.ctl := rfl
@[simp] theorem State.setSksp_mem (s : State) (v : Addr) : (s.setSksp v).mem = s.mem := rfl
@[simp] theorem State.setSksp_prog (s : State) (v : Addr) : (s.setSksp v).prog = s.prog := rfl
@[simp] theorem State.setSksp_free (s : State) (v : Addr) : (s.setSksp v).free = s.free := rfl
@[simp] theorem State.setSksp_stale (s : State) (v : Addr) : (s.setSksp v).stale = s.stale := rfl
@[simp] theorem State.setSksp_begun (s : State) (v : Addr) : (s.setSksp v).begun = s.begun := rfl
@[simp] theorem State.setSksp_plat (s : State) (v : Addr) : (s.setSksp v).plat = s.plat := rfl

@[simp] theorem State.setK_reg_a (s : State) (v : Word) : (s.setK v).reg.a = s.reg.a := rfl
@[simp] theorem State.setK_reg_b (s : State) (v : Word) : (s.setK v).reg.b = s.reg.b := rfl
@[simp] theorem State.setK_reg_e (s : State) (v : Word) : (s.setK v).reg.e = s.reg.e := rfl
@[simp] theorem State.setK_reg_ix (s : State) (v : Word) : (s.setK v).reg.ix = s.reg.ix := rfl
@[simp] theorem State.setK_reg_iy (s : State) (v : Word) : (s.setK v).reg.iy = s.reg.iy := rfl
@[simp] theorem State.setK_reg_iz (s : State) (v : Word) : (s.setK v).reg.iz = s.reg.iz := rfl
@[simp] theorem State.setK_reg_sp (s : State) (v : Word) : (s.setK v).reg.sp = s.reg.sp := rfl
@[simp] theorem State.setK_reg_pc (s : State) (v : Word) : (s.setK v).reg.pc = s.reg.pc := rfl
@[simp] theorem State.setK_reg_ccr (s : State) (v : Word) : (s.setK v).reg.ccr = s.reg.ccr := rfl
@[simp] theorem State.setK_reg_ek (s : State) (v : Word) : (s.setK v).reg.ek = BitVec.extractLsb' 12 4 v := rfl
@[simp] theorem State.setK_reg_xk (s : State) (v : Word) : (s.setK v).reg.xk = BitVec.extractLsb' 8 4 v := rfl
@[simp] theorem State.setK_reg_yk (s : State) (v : Word) : (s.setK v).reg.yk = BitVec.extractLsb' 4 4 v := rfl
@[simp] theorem State.setK_reg_zk (s : State) (v : Word) : (s.setK v).reg.zk = BitVec.extractLsb' 0 4 v := rfl
@[simp] theorem State.setK_reg_sk (s : State) (v : Word) : (s.setK v).reg.sk = s.reg.sk := rfl
@[simp] theorem State.setK_mac (s : State) (v : Word) : (s.setK v).mac = s.mac := rfl
@[simp] theorem State.setK_ctl (s : State) (v : Word) : (s.setK v).ctl = s.ctl := rfl
@[simp] theorem State.setK_mem (s : State) (v : Word) : (s.setK v).mem = s.mem := rfl
@[simp] theorem State.setK_prog (s : State) (v : Word) : (s.setK v).prog = s.prog := rfl
@[simp] theorem State.setK_free (s : State) (v : Word) : (s.setK v).free = s.free := rfl
@[simp] theorem State.setK_stale (s : State) (v : Word) : (s.setK v).stale = s.stale := rfl
@[simp] theorem State.setK_begun (s : State) (v : Word) : (s.setK v).begun = s.begun := rfl
@[simp] theorem State.setK_plat (s : State) (v : Word) : (s.setK v).plat = s.plat := rfl

@[simp] theorem State.setED_reg_a (s : State) (v : BitVec 32) : (s.setED v).reg.a = hi (loWord v) := rfl
@[simp] theorem State.setED_reg_b (s : State) (v : BitVec 32) : (s.setED v).reg.b = lo (loWord v) := rfl
@[simp] theorem State.setED_reg_e (s : State) (v : BitVec 32) : (s.setED v).reg.e = hiWord v := rfl
@[simp] theorem State.setED_reg_ix (s : State) (v : BitVec 32) : (s.setED v).reg.ix = s.reg.ix := rfl
@[simp] theorem State.setED_reg_iy (s : State) (v : BitVec 32) : (s.setED v).reg.iy = s.reg.iy := rfl
@[simp] theorem State.setED_reg_iz (s : State) (v : BitVec 32) : (s.setED v).reg.iz = s.reg.iz := rfl
@[simp] theorem State.setED_reg_sp (s : State) (v : BitVec 32) : (s.setED v).reg.sp = s.reg.sp := rfl
@[simp] theorem State.setED_reg_pc (s : State) (v : BitVec 32) : (s.setED v).reg.pc = s.reg.pc := rfl
@[simp] theorem State.setED_reg_ccr (s : State) (v : BitVec 32) : (s.setED v).reg.ccr = s.reg.ccr := rfl
@[simp] theorem State.setED_reg_ek (s : State) (v : BitVec 32) : (s.setED v).reg.ek = s.reg.ek := rfl
@[simp] theorem State.setED_reg_xk (s : State) (v : BitVec 32) : (s.setED v).reg.xk = s.reg.xk := rfl
@[simp] theorem State.setED_reg_yk (s : State) (v : BitVec 32) : (s.setED v).reg.yk = s.reg.yk := rfl
@[simp] theorem State.setED_reg_zk (s : State) (v : BitVec 32) : (s.setED v).reg.zk = s.reg.zk := rfl
@[simp] theorem State.setED_reg_sk (s : State) (v : BitVec 32) : (s.setED v).reg.sk = s.reg.sk := rfl
@[simp] theorem State.setED_mac (s : State) (v : BitVec 32) : (s.setED v).mac = s.mac := rfl
@[simp] theorem State.setED_ctl (s : State) (v : BitVec 32) : (s.setED v).ctl = s.ctl := rfl
@[simp] theorem State.setED_mem (s : State) (v : BitVec 32) : (s.setED v).mem = s.mem := rfl
@[simp] theorem State.setED_prog (s : State) (v : BitVec 32) : (s.setED v).prog = s.prog := rfl
@[simp] theorem State.setED_free (s : State) (v : BitVec 32) : (s.setED v).free = s.free := rfl
@[simp] theorem State.setED_stale (s : State) (v : BitVec 32) : (s.setED v).stale = s.stale := rfl
@[simp] theorem State.setED_begun (s : State) (v : BitVec 32) : (s.setED v).begun = s.begun := rfl
@[simp] theorem State.setED_plat (s : State) (v : BitVec 32) : (s.setED v).plat = s.plat := rfl

@[simp] theorem State.jumpTo_reg_a (s : State) (v : Addr) : (s.jumpTo v).reg.a = s.reg.a := rfl
@[simp] theorem State.jumpTo_reg_b (s : State) (v : Addr) : (s.jumpTo v).reg.b = s.reg.b := rfl
@[simp] theorem State.jumpTo_reg_e (s : State) (v : Addr) : (s.jumpTo v).reg.e = s.reg.e := rfl
@[simp] theorem State.jumpTo_reg_ix (s : State) (v : Addr) : (s.jumpTo v).reg.ix = s.reg.ix := rfl
@[simp] theorem State.jumpTo_reg_iy (s : State) (v : Addr) : (s.jumpTo v).reg.iy = s.reg.iy := rfl
@[simp] theorem State.jumpTo_reg_iz (s : State) (v : Addr) : (s.jumpTo v).reg.iz = s.reg.iz := rfl
@[simp] theorem State.jumpTo_reg_sp (s : State) (v : Addr) : (s.jumpTo v).reg.sp = s.reg.sp := rfl
@[simp] theorem State.jumpTo_reg_pc (s : State) (v : Addr) : (s.jumpTo v).reg.pc = offset (evenAddr v + 6) := rfl
@[simp] theorem State.jumpTo_reg_ccr (s : State) (v : Addr) : (s.jumpTo v).reg.ccr = withPK (bank (evenAddr v + 6)) s.reg.ccr := rfl
@[simp] theorem State.jumpTo_reg_ek (s : State) (v : Addr) : (s.jumpTo v).reg.ek = s.reg.ek := rfl
@[simp] theorem State.jumpTo_reg_xk (s : State) (v : Addr) : (s.jumpTo v).reg.xk = s.reg.xk := rfl
@[simp] theorem State.jumpTo_reg_yk (s : State) (v : Addr) : (s.jumpTo v).reg.yk = s.reg.yk := rfl
@[simp] theorem State.jumpTo_reg_zk (s : State) (v : Addr) : (s.jumpTo v).reg.zk = s.reg.zk := rfl
@[simp] theorem State.jumpTo_reg_sk (s : State) (v : Addr) : (s.jumpTo v).reg.sk = s.reg.sk := rfl
@[simp] theorem State.jumpTo_mac (s : State) (v : Addr) : (s.jumpTo v).mac = s.mac := rfl
@[simp] theorem State.jumpTo_ctl (s : State) (v : Addr) : (s.jumpTo v).ctl = s.ctl := rfl
@[simp] theorem State.jumpTo_mem (s : State) (v : Addr) : (s.jumpTo v).mem = s.mem := rfl
@[simp] theorem State.jumpTo_prog (s : State) (v : Addr) : (s.jumpTo v).prog = s.prog := rfl
@[simp] theorem State.jumpTo_free (s : State) (v : Addr) : (s.jumpTo v).free = s.free := rfl
@[simp] theorem State.jumpTo_stale (s : State) (v : Addr) : (s.jumpTo v).stale = [] := rfl
@[simp] theorem State.jumpTo_begun (s : State) (v : Addr) : (s.jumpTo v).begun = false := rfl
@[simp] theorem State.jumpTo_plat (s : State) (v : Addr) : (s.jumpTo v).plat = s.plat := rfl

@[simp] theorem State.advance_reg_a (s : State) (v : Nat) : (s.advance v).reg.a = s.reg.a := rfl
@[simp] theorem State.advance_reg_b (s : State) (v : Nat) : (s.advance v).reg.b = s.reg.b := rfl
@[simp] theorem State.advance_reg_e (s : State) (v : Nat) : (s.advance v).reg.e = s.reg.e := rfl
@[simp] theorem State.advance_reg_ix (s : State) (v : Nat) : (s.advance v).reg.ix = s.reg.ix := rfl
@[simp] theorem State.advance_reg_iy (s : State) (v : Nat) : (s.advance v).reg.iy = s.reg.iy := rfl
@[simp] theorem State.advance_reg_iz (s : State) (v : Nat) : (s.advance v).reg.iz = s.reg.iz := rfl
@[simp] theorem State.advance_reg_sp (s : State) (v : Nat) : (s.advance v).reg.sp = s.reg.sp := rfl
@[simp] theorem State.advance_reg_pc (s : State) (v : Nat) : (s.advance v).reg.pc = offset (s.pkpc + BitVec.ofNat 20 v) := rfl
@[simp] theorem State.advance_reg_ccr (s : State) (v : Nat) : (s.advance v).reg.ccr = withPK (bank (s.pkpc + BitVec.ofNat 20 v)) s.reg.ccr := rfl
@[simp] theorem State.advance_reg_ek (s : State) (v : Nat) : (s.advance v).reg.ek = s.reg.ek := rfl
@[simp] theorem State.advance_reg_xk (s : State) (v : Nat) : (s.advance v).reg.xk = s.reg.xk := rfl
@[simp] theorem State.advance_reg_yk (s : State) (v : Nat) : (s.advance v).reg.yk = s.reg.yk := rfl
@[simp] theorem State.advance_reg_zk (s : State) (v : Nat) : (s.advance v).reg.zk = s.reg.zk := rfl
@[simp] theorem State.advance_reg_sk (s : State) (v : Nat) : (s.advance v).reg.sk = s.reg.sk := rfl
@[simp] theorem State.advance_mac (s : State) (v : Nat) : (s.advance v).mac = s.mac := rfl
@[simp] theorem State.advance_ctl (s : State) (v : Nat) : (s.advance v).ctl = s.ctl := rfl
@[simp] theorem State.advance_mem (s : State) (v : Nat) : (s.advance v).mem = s.mem := rfl
@[simp] theorem State.advance_prog (s : State) (v : Nat) : (s.advance v).prog = s.prog := rfl
@[simp] theorem State.advance_free (s : State) (v : Nat) : (s.advance v).free = s.free := rfl
@[simp] theorem State.advance_stale (s : State) (v : Nat) : (s.advance v).stale = s.stale := rfl
@[simp] theorem State.advance_begun (s : State) (v : Nat) : (s.advance v).begun = s.begun := rfl
@[simp] theorem State.advance_plat (s : State) (v : Nat) : (s.advance v).plat = s.plat := rfl

@[simp] theorem State.freshBit_fst (s : State) : (s.freshBit).1 = Config.freeBit s.free := rfl
@[simp] theorem State.freshBit_reg (s : State) : (s.freshBit).2.reg = s.reg := rfl
@[simp] theorem State.freshBit_mac (s : State) : (s.freshBit).2.mac = s.mac := rfl
@[simp] theorem State.freshBit_ctl (s : State) : (s.freshBit).2.ctl = s.ctl := rfl
@[simp] theorem State.freshBit_plat (s : State) : (s.freshBit).2.plat = s.plat := rfl
@[simp] theorem State.freshBit_mem (s : State) : (s.freshBit).2.mem = s.mem := rfl
@[simp] theorem State.freshBit_prog (s : State) : (s.freshBit).2.prog = s.prog := rfl
@[simp] theorem State.freshBit_stale (s : State) : (s.freshBit).2.stale = s.stale := rfl
@[simp] theorem State.freshBit_begun (s : State) : (s.freshBit).2.begun = s.begun := rfl
@[simp] theorem State.freshBit_free (s : State) : (s.freshBit).2.free = s.free + 1 := rfl

@[simp] theorem State.freshByte_fst (s : State) : (s.freshByte).1 = Config.freeByte s.free := rfl
@[simp] theorem State.freshByte_reg (s : State) : (s.freshByte).2.reg = s.reg := rfl
@[simp] theorem State.freshByte_mac (s : State) : (s.freshByte).2.mac = s.mac := rfl
@[simp] theorem State.freshByte_ctl (s : State) : (s.freshByte).2.ctl = s.ctl := rfl
@[simp] theorem State.freshByte_plat (s : State) : (s.freshByte).2.plat = s.plat := rfl
@[simp] theorem State.freshByte_mem (s : State) : (s.freshByte).2.mem = s.mem := rfl
@[simp] theorem State.freshByte_prog (s : State) : (s.freshByte).2.prog = s.prog := rfl
@[simp] theorem State.freshByte_stale (s : State) : (s.freshByte).2.stale = s.stale := rfl
@[simp] theorem State.freshByte_begun (s : State) : (s.freshByte).2.begun = s.begun := rfl
@[simp] theorem State.freshByte_free (s : State) : (s.freshByte).2.free = s.free + 1 := rfl

@[simp] theorem State.freshWord_fst (s : State) : (s.freshWord).1 = Config.freeWord s.free := rfl
@[simp] theorem State.freshWord_reg (s : State) : (s.freshWord).2.reg = s.reg := rfl
@[simp] theorem State.freshWord_mac (s : State) : (s.freshWord).2.mac = s.mac := rfl
@[simp] theorem State.freshWord_ctl (s : State) : (s.freshWord).2.ctl = s.ctl := rfl
@[simp] theorem State.freshWord_plat (s : State) : (s.freshWord).2.plat = s.plat := rfl
@[simp] theorem State.freshWord_mem (s : State) : (s.freshWord).2.mem = s.mem := rfl
@[simp] theorem State.freshWord_prog (s : State) : (s.freshWord).2.prog = s.prog := rfl
@[simp] theorem State.freshWord_stale (s : State) : (s.freshWord).2.stale = s.stale := rfl
@[simp] theorem State.freshWord_begun (s : State) : (s.freshWord).2.begun = s.begun := rfl
@[simp] theorem State.freshWord_free (s : State) : (s.freshWord).2.free = s.free + 1 := rfl

@[simp] theorem State.freshAddr_fst (s : State) : (s.freshAddr).1 = Config.freeAddr s.free := rfl
@[simp] theorem State.freshAddr_reg (s : State) : (s.freshAddr).2.reg = s.reg := rfl
@[simp] theorem State.freshAddr_mac (s : State) : (s.freshAddr).2.mac = s.mac := rfl
@[simp] theorem State.freshAddr_ctl (s : State) : (s.freshAddr).2.ctl = s.ctl := rfl
@[simp] theorem State.freshAddr_plat (s : State) : (s.freshAddr).2.plat = s.plat := rfl
@[simp] theorem State.freshAddr_mem (s : State) : (s.freshAddr).2.mem = s.mem := rfl
@[simp] theorem State.freshAddr_prog (s : State) : (s.freshAddr).2.prog = s.prog := rfl
@[simp] theorem State.freshAddr_stale (s : State) : (s.freshAddr).2.stale = s.stale := rfl
@[simp] theorem State.freshAddr_begun (s : State) : (s.freshAddr).2.begun = s.begun := rfl
@[simp] theorem State.freshAddr_free (s : State) : (s.freshAddr).2.free = s.free + 1 := rfl

@[simp] theorem State.setBegun_reg (s : State) (v : Bool) : (s.setBegun v).reg = s.reg := rfl
@[simp] theorem State.setBegun_mac (s : State) (v : Bool) : (s.setBegun v).mac = s.mac := rfl
@[simp] theorem State.setBegun_ctl (s : State) (v : Bool) : (s.setBegun v).ctl = s.ctl := rfl
@[simp] theorem State.setBegun_plat (s : State) (v : Bool) : (s.setBegun v).plat = s.plat := rfl
@[simp] theorem State.setBegun_mem (s : State) (v : Bool) : (s.setBegun v).mem = s.mem := rfl
@[simp] theorem State.setBegun_prog (s : State) (v : Bool) : (s.setBegun v).prog = s.prog := rfl
@[simp] theorem State.setBegun_free (s : State) (v : Bool) : (s.setBegun v).free = s.free := rfl
@[simp] theorem State.setBegun_stale (s : State) (v : Bool) : (s.setBegun v).stale = s.stale := rfl
@[simp] theorem State.setBegun_begun (s : State) (v : Bool) : (s.setBegun v).begun = v := rfl

end Sys2Proof.Machine
end

