-- ==== Sys2Proof/Laws/Ops.lean ====
section
/-! SUPPORT. One lemma per shared operation: everything that a bus cycle, a push, a pull or a program counter update can
do while the double-bus-fault window is closed. -/

namespace Sys2Proof.Machine

/-! ### Program counter -/

@[simp] theorem State.pk_setPkpc (s : State) (v : Addr) : (s.setPkpc v).pk = bank v := by
  simp [State.pk]

@[simp] theorem State.pkpc_setPkpc (s : State) (v : Addr) : (s.setPkpc v).pkpc = v := by
  simp [State.pkpc]

@[simp] theorem State.pkpc_advance (s : State) (n : Nat) : (s.advance n).pkpc = s.pkpc + BitVec.ofNat 20 n :=
  State.pkpc_setPkpc s _

@[simp] theorem State.pkpc_jumpTo (s : State) (a : Addr) : (s.jumpTo a).pkpc = evenAddr a + 6 :=
  State.pkpc_setPkpc s _

@[simp] theorem State.ia_jumpTo (s : State) (a : Addr) : (s.jumpTo a).ia = evenAddr a := by
  simp only [State.ia, State.pkpc_jumpTo, add_six_sub_six]

theorem State.ia_advance (s : State) (n : Nat) : (s.advance n).ia = s.ia + BitVec.ofNat 20 n := by
  simp only [State.ia, State.pkpc_advance, BitVec.sub_eq_add_neg, BitVec.add_assoc]
  rw [BitVec.add_comm (BitVec.ofNat 20 n)]

theorem State.pkpc_eq_ia (s : State) : s.pkpc = s.ia + 6 := by
  simp [State.ia, BitVec.sub_add_cancel]

/-- PK : PC depends on PC and on the CCR's PK field only. -/
theorem State.pkpc_congr {s t : State} (h1 : t.reg.pc = s.reg.pc) (h2 : fieldPK t.reg.ccr = fieldPK s.reg.ccr) :
    t.pkpc = s.pkpc := by
  simp [State.pkpc, State.pk, h1, h2]

@[simp] theorem State.sksp_setSksp (s : State) (v : Addr) : (s.setSksp v).sksp = v := pair_bank_offset v

/-! ### The register file after each setter -/

theorem State.reg_setA (s : State) (v : Byte) : (s.setA v).reg = { s.reg with a := v } := rfl
theorem State.reg_setB (s : State) (v : Byte) : (s.setB v).reg = { s.reg with b := v } := rfl
theorem State.reg_setE (s : State) (v : Word) : (s.setE v).reg = { s.reg with e := v } := rfl
theorem State.reg_setIX (s : State) (v : Word) : (s.setIX v).reg = { s.reg with ix := v } := rfl
theorem State.reg_setIY (s : State) (v : Word) : (s.setIY v).reg = { s.reg with iy := v } := rfl
theorem State.reg_setIZ (s : State) (v : Word) : (s.setIZ v).reg = { s.reg with iz := v } := rfl
theorem State.reg_setSP (s : State) (v : Word) : (s.setSP v).reg = { s.reg with sp := v } := rfl
theorem State.reg_setCcr (s : State) (v : Word) : (s.setCcr v).reg = { s.reg with ccr := v } := rfl
theorem State.reg_setEK (s : State) (v : Ext) : (s.setEK v).reg = { s.reg with ek := v } := rfl
theorem State.reg_setXK (s : State) (v : Ext) : (s.setXK v).reg = { s.reg with xk := v } := rfl
theorem State.reg_setYK (s : State) (v : Ext) : (s.setYK v).reg = { s.reg with yk := v } := rfl
theorem State.reg_setZK (s : State) (v : Ext) : (s.setZK v).reg = { s.reg with zk := v } := rfl
theorem State.reg_setSK (s : State) (v : Ext) : (s.setSK v).reg = { s.reg with sk := v } := rfl
theorem State.reg_setD (s : State) (v : Word) : (s.setD v).reg = s.reg.withD v := rfl
theorem State.reg_setXkix (s : State) (v : Addr) : (s.setXkix v).reg = s.reg.withX v := rfl
theorem State.reg_setYkiy (s : State) (v : Addr) : (s.setYkiy v).reg = s.reg.withY v := rfl
theorem State.reg_setZkiz (s : State) (v : Addr) : (s.setZkiz v).reg = s.reg.withZ v := rfl
theorem State.reg_setSksp (s : State) (v : Addr) : (s.setSksp v).reg = s.reg.withS v := rfl
theorem State.reg_setPkpc (s : State) (v : Addr) : (s.setPkpc v).reg = { s.reg with pc := offset v, ccr := withPK (bank v) s.reg.ccr } := rfl
theorem State.reg_setED (s : State) (v : BitVec 32) : (s.setED v).reg = s.reg.withED (hiWord v) (loWord v) := rfl
theorem State.reg_setK (s : State) (v : Word) : (s.setK v).reg =
    { s.reg with ek := BitVec.extractLsb' 12 4 v, xk := BitVec.extractLsb' 8 4 v, yk := BitVec.extractLsb' 4 4 v,
                 zk := BitVec.extractLsb' 0 4 v } := rfl
theorem State.reg_advance (s : State) (n : Nat) : (s.advance n).reg =
    { s.reg with pc := offset (s.pkpc + BitVec.ofNat 20 n),
                 ccr := withPK (bank (s.pkpc + BitVec.ofNat 20 n)) s.reg.ccr } := rfl
theorem State.reg_jumpTo (s : State) (a : Addr) : (s.jumpTo a).reg =
    { s.reg with pc := offset (evenAddr a + 6), ccr := withPK (bank (evenAddr a + 6)) s.reg.ccr } := rfl

theorem State.sksp_congr {s t : State} (h : t.reg = s.reg) : t.sksp = s.sksp := by
  simp [State.sksp, h]

/-! ### What bus cycles leave alone -/

/-- Registers, MAC unit, platform and program space are as before, and the control state but for two latches. -/
structure BusKept (s t : State) : Prop where
  reg : t.reg = s.reg
  mac : t.mac = s.mac
  ctl : ControlKept s t
  out : OutsideKept s t

theorem ControlKept.refl (s : State) : ControlKept s s := rfl

theorem ControlKept.trans {s t u : State} (h : ControlKept s t) (h' : ControlKept t u) : ControlKept s u := by
  unfold ControlKept at *; rw [h', h]

theorem BusKept.refl (s : State) : BusKept s s := ⟨rfl, rfl, rfl, rfl, rfl⟩

theorem BusKept.trans {s t u : State} (h : BusKept s t) (h' : BusKept t u) : BusKept s u :=
  ⟨h'.reg.trans h.reg, h'.mac.trans h.mac, h.ctl.trans h'.ctl, h'.out.1.trans h.out.1, h'.out.2.trans h.out.2⟩

theorem ControlKept.executing {s t : State} (h : ControlKept s t) (hs : s.executing = true) : t.executing = true := by
  unfold ControlKept at h; unfold State.executing at *; rw [h]; exact hs

theorem BusKept.executing {s t : State} (h : BusKept s t) (hs : s.executing = true) : t.executing = true :=
  h.ctl.executing hs

theorem BusKept.writable {s t : State} (h : BusKept s t) (a : Addr) : t.writable a = s.writable a := by
  simp [State.writable, h.out.1]

theorem BusKept.readable {s t : State} (h : BusKept s t) (a : Addr) : t.readable a = s.readable a := by
  simp [State.readable, h.out.1]

/-- Where a store is kept, a read gives the byte of memory. -/
theorem State.readable_of_writable (s : State) (a : Addr) (h : s.writable a = true) : s.readable a = true := by
  unfold State.writable at h; unfold State.readable; rw [beq_iff_eq.mp h]; rfl

theorem State.noteOperand_kept (s : State) (a : Addr) :
    BusKept s (s.noteOperand a) ∧ (s.noteOperand a).mem = s.mem := by
  unfold State.noteOperand; split <;> exact ⟨⟨rfl, rfl, rfl, rfl, rfl⟩, rfl⟩

/-- An operand cycle sets the BKPT latch exactly where BKPT is asserted, and touches no other latch. -/
theorem State.noteOperand_ctl (s : State) (a : Addr) :
    (s.noteOperand a).ctl = { s.ctl with bkptLatch := s.ctl.bkptLatch || s.breaks a } := by
  unfold State.noteOperand State.breaks
  split
  · rename_i h; rw [h, Bool.or_true]; rfl
  · rename_i h; rw [Bool.not_eq_true] at h; rw [h, Bool.or_false]

theorem BusKept.breaks {s t : State} (h : BusKept s t) (a : Addr) : t.breaks a = s.breaks a := by
  simp [State.breaks, h.out.1]

theorem State.signalBusError_kept (s : State) (h : s.executing = true) :
    BusKept s s.signalBusError ∧ s.signalBusError.mem = s.mem := by
  have : s.ctl.berrWindow = false := by simpa [State.executing] using h
  unfold State.signalBusError; rw [this]; exact ⟨⟨rfl, rfl, rfl, rfl, rfl⟩, rfl⟩

/-- Reading a byte changes no byte, and where memory answers it gives the byte there. -/
theorem State.read8_spec (s : State) (a : Addr) (h : s.executing = true) :
    BusKept s (s.read8 a).2 ∧ (s.read8 a).2.mem = s.mem ∧ (s.readable a = true → (s.read8 a).1 = s.dataByte a) := by
  have h1 := s.noteOperand_kept a
  unfold State.read8
  simp only
  have hf : BusKept s (s.noteOperand a).freshByte.2 := ⟨h1.1.reg, h1.1.mac, h1.1.ctl, h1.1.out⟩
  cases hkind : kindAt s.plat.dataMap a.toNat with
  | ram => exact ⟨h1.1, h1.2, fun _ => by rw [h1.2]; rfl⟩
  | rom => exact ⟨h1.1, h1.2, fun _ => by rw [h1.2]; rfl⟩
  | romBusError => exact ⟨h1.1, h1.2, fun _ => by rw [h1.2]; rfl⟩
  | device => exact ⟨hf, h1.2, fun hr => by simp [State.readable, RegionKind.holds, hkind] at hr⟩
  | busError =>
    have h2 := State.signalBusError_kept _ (hf.executing h)
    exact ⟨hf.trans h2.1, h2.2.trans h1.2, fun hr => by simp [State.readable, RegionKind.holds, hkind] at hr⟩

theorem State.noteStale_kept (s : State) (a : Addr) :
    BusKept s (s.noteStale a) ∧ (s.noteStale a).mem = s.mem := by
  unfold State.noteStale; split <;> exact ⟨⟨rfl, rfl, rfl, rfl, rfl⟩, rfl⟩

theorem toNat_inj_iff (a b : Addr) : a.toNat = b.toNat ↔ a = b := BitVec.toNat_inj

/-- Writing a byte changes that byte only, and only in RAM. -/
theorem State.write8_spec (s : State) (a : Addr) (v : Byte) (h : s.executing = true) :
    BusKept s (s.write8 a v) ∧ StoresByte s (s.write8 a v) a v := by
  have h1 := s.noteOperand_kept a
  have same : ∀ t : State, t.mem = s.mem → s.writable a = false → StoresByte s t a v := by
    intro t ht hw b; simp [State.dataByte, ht, hw]
  unfold State.write8
  simp only
  cases hkind : kindAt s.plat.dataMap a.toNat with
  | ram =>
    have hm : BusKept s { s.noteOperand a with mem := Memory.write (s.noteOperand a).mem a.toNat v } :=
      ⟨h1.1.reg, h1.1.mac, h1.1.ctl, h1.1.out⟩
    have h2 := State.noteStale_kept { s.noteOperand a with mem := Memory.write (s.noteOperand a).mem a.toNat v } a
    refine ⟨hm.trans h2.1, fun b => ?_⟩
    show Memory.read (State.noteStale _ a).mem b.toNat = _
    rw [(State.noteStale_kept _ a).2]
    simp only [h1.2, Memory.read_write, toNat_inj_iff, State.dataByte, State.writable, hkind]
    simp
  | rom => exact ⟨h1.1, same _ h1.2 (by simp [State.writable, hkind])⟩
  | device => exact ⟨h1.1, same _ h1.2 (by simp [State.writable, hkind])⟩
  | romBusError =>
    have h2 := State.signalBusError_kept _ (h1.1.executing h)
    exact ⟨h1.1.trans h2.1, same _ (h2.2.trans h1.2) (by simp [State.writable, hkind])⟩
  | busError =>
    have h2 := State.signalBusError_kept _ (h1.1.executing h)
    exact ⟨h1.1.trans h2.1, same _ (h2.2.trans h1.2) (by simp [State.writable, hkind])⟩

/-- Where memory answers, a read is exact whatever the window: it gives the byte and leaves all but the BKPT latch. -/
theorem State.read8_memory (s : State) (a : Addr) (h : s.readable a = true) :
    s.read8 a = (s.dataByte a, s.noteOperand a) := by
  have h1 := s.noteOperand_kept a
  unfold State.read8
  simp only
  cases hkind : kindAt s.plat.dataMap a.toNat with
  | ram => simp [h1.2, State.dataByte]
  | rom => simp [h1.2, State.dataByte]
  | romBusError => simp [h1.2, State.dataByte]
  | device => simp [State.readable, RegionKind.holds, hkind] at h
  | busError => simp [State.readable, RegionKind.holds, hkind] at h

/-- Where RAM answers, a write is exact whatever the window. -/
theorem State.write8_ram (s : State) (a : Addr) (v : Byte) (h : s.writable a = true) :
    s.write8 a v =
      { s.noteOperand a with mem := Memory.write (s.noteOperand a).mem a.toNat v }.noteStale a := by
  have hkind : kindAt s.plat.dataMap a.toNat = .ram := by simpa [State.writable] using h
  unfold State.write8
  simp only [hkind]

/-- Where RAM answers, a write leaves everything but its byte, the BKPT latch and the model's notes, and sets the BKPT
latch exactly where BKPT is asserted. -/
theorem State.write8_ram_spec (s : State) (a : Addr) (v : Byte) (h : s.writable a = true) :
    BusKept s (s.write8 a v) ∧ StoresByte s (s.write8 a v) a v ∧
      (s.write8 a v).ctl = { s.ctl with bkptLatch := s.ctl.bkptLatch || s.breaks a } := by
  have h1 := s.noteOperand_kept a
  rw [State.write8_ram s a v h]
  have hm : BusKept s { s.noteOperand a with mem := Memory.write (s.noteOperand a).mem a.toNat v } :=
    ⟨h1.1.reg, h1.1.mac, h1.1.ctl, h1.1.out⟩
  refine ⟨hm.trans (State.noteStale_kept _ a).1, fun b => ?_, ?_⟩
  · show Memory.read (State.noteStale _ a).mem b.toNat = _
    rw [(State.noteStale_kept _ a).2]
    simp only [h1.2, Memory.read_write, toNat_inj_iff, State.dataByte, h]
    simp
  · rw [← s.noteOperand_ctl a]; unfold State.noteStale; split <;> rfl

/-- Where memory answers, a read leaves everything but the BKPT latch, which it sets exactly where BKPT is asserted. -/
theorem State.read8_memory_spec (s : State) (a : Addr) (h : s.readable a = true) :
    BusKept s (s.read8 a).2 ∧ (s.read8 a).2.mem = s.mem ∧ (s.read8 a).1 = s.dataByte a ∧
      (s.read8 a).2.ctl = { s.ctl with bkptLatch := s.ctl.bkptLatch || s.breaks a } := by
  have h1 := s.noteOperand_kept a
  rw [State.read8_memory s a h]
  exact ⟨h1.1, h1.2, rfl, s.noteOperand_ctl a⟩

/-- Reading a word changes no byte, and where memory answers it gives the word there, high byte first. -/
theorem State.read16_spec (s : State) (a : Addr) (h : s.executing = true) :
    BusKept s (s.read16 a).2 ∧ (s.read16 a).2.mem = s.mem ∧
      (s.readable a = true → s.readable (a + 1) = true → (s.read16 a).1 = s.dataWord a) := by
  have h1 := s.read8_spec a h
  have h2 := (s.read8 a).2.read8_spec (a + 1) (h1.1.executing h)
  refine ⟨h1.1.trans h2.1, h2.2.1.trans h1.2.1, fun ha hb => ?_⟩
  have hb' := h2.2.2 (by rw [h1.1.readable]; exact hb)
  simp only [State.read16, h1.2.2 ha, hb', State.dataWord, State.dataByte, h1.2.1]

/-- Where memory answers at both bytes, a word read is exact whatever the window. -/
theorem State.read16_memory_spec (s : State) (a : Addr) (h : s.readable a = true) (h' : s.readable (a + 1) = true) :
    BusKept s (s.read16 a).2 ∧ (s.read16 a).2.mem = s.mem ∧ (s.read16 a).1 = s.dataWord a ∧
      (s.read16 a).2.ctl = { s.ctl with bkptLatch := s.ctl.bkptLatch || s.breaks a || s.breaks (a + 1) } := by
  have h1 := s.read8_memory_spec a h
  have h2 := (s.read8 a).2.read8_memory_spec (a + 1) (by rw [h1.1.readable]; exact h')
  refine ⟨h1.1.trans h2.1, h2.2.1.trans h1.2.1, ?_, ?_⟩
  · simp only [State.read16, h1.2.2.1, h2.2.2.1, State.dataWord, State.dataByte, h1.2.1]
  · show ((s.read8 a).2.read8 (a + 1)).2.ctl = _
    rw [h2.2.2.2, h1.2.2.2, h1.1.breaks]

theorem add_one_ne (a : Addr) : a + 1 ≠ a := by
  intro h; have := congrArg BitVec.toNat h; simp at this; omega

/-- Writing a word changes its two bytes only, each only in RAM. -/
theorem State.write16_spec (s : State) (a : Addr) (v : Word) (h : s.executing = true) :
    BusKept s (s.write16 a v) ∧ StoresWord s (s.write16 a v) a v := by
  have h1 := s.write8_spec a (hi v) h
  have h2 := (s.write8 a (hi v)).write8_spec (a + 1) (lo v) (h1.1.executing h)
  refine ⟨h1.1.trans h2.1, fun b => ?_⟩
  have e1 := h1.2 b
  have e2 := h2.2 b
  rw [h1.1.writable] at e2
  simp only [State.write16, e2, e1]
  have := add_one_ne a
  grind

/-- A word pushed lies at the old SK : SP, and SK : SP is 2 lower. -/
theorem State.push16_spec (s : State) (v : Word) (h : s.executing = true) :
    StoresWord s (s.push16 v) s.sksp v ∧ (s.push16 v).reg = s.reg.withS (s.sksp - 2) ∧ (s.push16 v).mac = s.mac ∧
      ControlKept s (s.push16 v) ∧ OutsideKept s (s.push16 v) := by
  have h1 := s.write16_spec s.sksp v h
  refine ⟨fun b => h1.2 b, ?_, h1.1.mac, h1.1.ctl, h1.1.out⟩
  show ((s.write16 s.sksp v).setSksp _).reg = _
  rw [State.reg_setSksp, State.sksp_congr h1.1.reg, h1.1.reg]

/-- A word pulled comes from SK : SP + 2, and SK : SP is there afterwards. -/
theorem State.pull16_spec (s : State) (h : s.executing = true) :
    (s.pull16.2).reg = s.reg.withS (s.sksp + 2) ∧ (s.pull16.2).mac = s.mac ∧ ControlKept s s.pull16.2 ∧
      OutsideKept s s.pull16.2 ∧ s.pull16.2.mem = s.mem ∧
      (s.readable (s.sksp + 2) = true → s.readable (s.sksp + 2 + 1) = true →
        s.pull16.1 = s.dataWord (s.sksp + 2)) := by
  have h0 : (s.setSksp (s.sksp + 2)).executing = true := h
  have h1 := (s.setSksp (s.sksp + 2)).read16_spec (s.setSksp (s.sksp + 2)).sksp h0
  refine ⟨h1.1.reg, h1.1.mac, h1.1.ctl, h1.1.out, h1.2.1, fun ha hb => ?_⟩
  have := h1.2.2
  rw [State.sksp_setSksp] at this
  show ((s.setSksp (s.sksp + 2)).read16 (s.setSksp (s.sksp + 2)).sksp).1 = _
  rw [State.sksp_setSksp]
  exact this ha hb

/-- A byte pushed lies one above SK : SP, and SK : SP is 1 lower. -/
theorem State.push8_spec (s : State) (v : Byte) (h : s.executing = true) :
    StoresByte s (s.push8 v) (s.sksp + 1) v ∧ (s.push8 v).reg = s.reg.withS (s.sksp - 1) ∧ (s.push8 v).mac = s.mac ∧
      ControlKept s (s.push8 v) ∧ OutsideKept s (s.push8 v) := by
  have h1 := s.write8_spec (s.sksp + 1) v h
  refine ⟨fun b => h1.2 b, ?_, h1.1.mac, h1.1.ctl, h1.1.out⟩
  show ((s.write8 (s.sksp + 1) v).setSksp _).reg = _
  rw [State.reg_setSksp, State.sksp_congr h1.1.reg, h1.1.reg]

/-- A byte pulled comes from SK : SP + 2, and SK : SP is 1 higher. -/
theorem State.pull8_spec (s : State) (h : s.executing = true) :
    (s.pull8.2).reg = s.reg.withS (s.sksp + 1) ∧ (s.pull8.2).mac = s.mac ∧ ControlKept s s.pull8.2 ∧
      OutsideKept s s.pull8.2 ∧ s.pull8.2.mem = s.mem ∧
      (s.readable (s.sksp + 2) = true → s.pull8.1 = s.dataByte (s.sksp + 2)) := by
  have h1 := s.read8_spec (s.sksp + 2) h
  refine ⟨?_, h1.1.mac, h1.1.ctl, h1.1.out, h1.2.1, h1.2.2⟩
  show ((s.read8 (s.sksp + 2)).2.setSksp _).reg = _
  rw [State.reg_setSksp, State.sksp_congr h1.1.reg, h1.1.reg]

/-- Reading a byte operand. -/
theorem State.src8_spec (s : State) (m : Src8) (h : s.executing = true) :
    BusKept s (s.src8 m).2 ∧ (s.src8 m).2.mem = s.mem := by
  cases m with
  | mem m => exact ⟨(s.read8_spec _ h).1, (s.read8_spec _ h).2.1⟩
  | imm ii => exact ⟨BusKept.refl s, rfl⟩

/-- Reading a word operand. -/
theorem State.src16_spec (s : State) (m : Src16) (h : s.executing = true) :
    BusKept s (s.src16 m).2 ∧ (s.src16 m).2.mem = s.mem := by
  cases m with
  | mem m => exact ⟨(s.read16_spec _ h).1, (s.read16_spec _ h).2.1⟩
  | imm8 ii => exact ⟨BusKept.refl s, rfl⟩
  | imm16 ii => exact ⟨BusKept.refl s, rfl⟩

end Sys2Proof.Machine
end

