-- ==== Sys2Proof/Laws/Platform.lean ====
section
/-! SUPPORT. One lemma per field per update of the platform: inputs, BKPT ranges, command words, replies and the breakpoint acknowledge. -/

namespace Sys2Proof.Machine

@[simp] theorem State.setInputs_reg (s : State) (l : List Input) : (s.setInputs l).reg = s.reg := rfl
@[simp] theorem State.setInputs_mac (s : State) (l : List Input) : (s.setInputs l).mac = s.mac := rfl
@[simp] theorem State.setInputs_ctl (s : State) (l : List Input) : (s.setInputs l).ctl = s.ctl := rfl
@[simp] theorem State.setInputs_mem (s : State) (l : List Input) : (s.setInputs l).mem = s.mem := rfl
@[simp] theorem State.setInputs_prog (s : State) (l : List Input) : (s.setInputs l).prog = s.prog := rfl
@[simp] theorem State.setInputs_free (s : State) (l : List Input) : (s.setInputs l).free = s.free := rfl
@[simp] theorem State.setInputs_stale (s : State) (l : List Input) : (s.setInputs l).stale = s.stale := rfl
@[simp] theorem State.setInputs_begun (s : State) (l : List Input) : (s.setInputs l).begun = s.begun := rfl
@[simp] theorem State.setInputs_plat_splitSpaces (s : State) (l : List Input) : (s.setInputs l).plat.splitSpaces = s.plat.splitSpaces := rfl
@[simp] theorem State.setInputs_plat_dataMap (s : State) (l : List Input) : (s.setInputs l).plat.dataMap = s.plat.dataMap := rfl
@[simp] theorem State.setInputs_plat_progMap (s : State) (l : List Input) : (s.setInputs l).plat.progMap = s.plat.progMap := rfl
@[simp] theorem State.setInputs_plat_dataBkpt (s : State) (l : List Input) : (s.setInputs l).plat.dataBkpt = s.plat.dataBkpt := rfl
@[simp] theorem State.setInputs_plat_progBkpt (s : State) (l : List Input) : (s.setInputs l).plat.progBkpt = s.plat.progBkpt := rfl
@[simp] theorem State.setInputs_plat_stopWake (s : State) (l : List Input) : (s.setInputs l).plat.stopWake = s.plat.stopWake := rfl
@[simp] theorem State.setInputs_plat_irq (s : State) (l : List Input) : (s.setInputs l).plat.irq = s.plat.irq := rfl
@[simp] theorem State.setInputs_plat_iack (s : State) (l : List Input) : (s.setInputs l).plat.iack = s.plat.iack := rfl
@[simp] theorem State.setInputs_plat_bkptAcks (s : State) (l : List Input) : (s.setInputs l).plat.bkptAcks = s.plat.bkptAcks := rfl
@[simp] theorem State.setInputs_plat_inputs (s : State) (l : List Input) : (s.setInputs l).plat.inputs = l := rfl
@[simp] theorem State.setInputs_plat_bdmIn (s : State) (l : List Input) : (s.setInputs l).plat.bdmIn = s.plat.bdmIn := rfl
@[simp] theorem State.setInputs_plat_bdmOut (s : State) (l : List Input) : (s.setInputs l).plat.bdmOut = s.plat.bdmOut := rfl

@[simp] theorem State.setBkptRanges_reg (s : State) (d p : List (Nat × Nat)) : (s.setBkptRanges d p).reg = s.reg := rfl
@[simp] theorem State.setBkptRanges_mac (s : State) (d p : List (Nat × Nat)) : (s.setBkptRanges d p).mac = s.mac := rfl
@[simp] theorem State.setBkptRanges_ctl (s : State) (d p : List (Nat × Nat)) : (s.setBkptRanges d p).ctl = s.ctl := rfl
@[simp] theorem State.setBkptRanges_mem (s : State) (d p : List (Nat × Nat)) : (s.setBkptRanges d p).mem = s.mem := rfl
@[simp] theorem State.setBkptRanges_prog (s : State) (d p : List (Nat × Nat)) : (s.setBkptRanges d p).prog = s.prog := rfl
@[simp] theorem State.setBkptRanges_free (s : State) (d p : List (Nat × Nat)) : (s.setBkptRanges d p).free = s.free := rfl
@[simp] theorem State.setBkptRanges_stale (s : State) (d p : List (Nat × Nat)) : (s.setBkptRanges d p).stale = s.stale := rfl
@[simp] theorem State.setBkptRanges_begun (s : State) (d p : List (Nat × Nat)) : (s.setBkptRanges d p).begun = s.begun := rfl
@[simp] theorem State.setBkptRanges_plat_splitSpaces (s : State) (d p : List (Nat × Nat)) : (s.setBkptRanges d p).plat.splitSpaces = s.plat.splitSpaces := rfl
@[simp] theorem State.setBkptRanges_plat_dataMap (s : State) (d p : List (Nat × Nat)) : (s.setBkptRanges d p).plat.dataMap = s.plat.dataMap := rfl
@[simp] theorem State.setBkptRanges_plat_progMap (s : State) (d p : List (Nat × Nat)) : (s.setBkptRanges d p).plat.progMap = s.plat.progMap := rfl
@[simp] theorem State.setBkptRanges_plat_dataBkpt (s : State) (d p : List (Nat × Nat)) : (s.setBkptRanges d p).plat.dataBkpt = d := rfl
@[simp] theorem State.setBkptRanges_plat_progBkpt (s : State) (d p : List (Nat × Nat)) : (s.setBkptRanges d p).plat.progBkpt = p := rfl
@[simp] theorem State.setBkptRanges_plat_stopWake (s : State) (d p : List (Nat × Nat)) : (s.setBkptRanges d p).plat.stopWake = s.plat.stopWake := rfl
@[simp] theorem State.setBkptRanges_plat_irq (s : State) (d p : List (Nat × Nat)) : (s.setBkptRanges d p).plat.irq = s.plat.irq := rfl
@[simp] theorem State.setBkptRanges_plat_iack (s : State) (d p : List (Nat × Nat)) : (s.setBkptRanges d p).plat.iack = s.plat.iack := rfl
@[simp] theorem State.setBkptRanges_plat_bkptAcks (s : State) (d p : List (Nat × Nat)) : (s.setBkptRanges d p).plat.bkptAcks = s.plat.bkptAcks := rfl
@[simp] theorem State.setBkptRanges_plat_inputs (s : State) (d p : List (Nat × Nat)) : (s.setBkptRanges d p).plat.inputs = s.plat.inputs := rfl
@[simp] theorem State.setBkptRanges_plat_bdmIn (s : State) (d p : List (Nat × Nat)) : (s.setBkptRanges d p).plat.bdmIn = s.plat.bdmIn := rfl
@[simp] theorem State.setBkptRanges_plat_bdmOut (s : State) (d p : List (Nat × Nat)) : (s.setBkptRanges d p).plat.bdmOut = s.plat.bdmOut := rfl

@[simp] theorem State.setBdmIn_reg (s : State) (ws : List Word) : (s.setBdmIn ws).reg = s.reg := rfl
@[simp] theorem State.setBdmIn_mac (s : State) (ws : List Word) : (s.setBdmIn ws).mac = s.mac := rfl
@[simp] theorem State.setBdmIn_ctl (s : State) (ws : List Word) : (s.setBdmIn ws).ctl = s.ctl := rfl
@[simp] theorem State.setBdmIn_mem (s : State) (ws : List Word) : (s.setBdmIn ws).mem = s.mem := rfl
@[simp] theorem State.setBdmIn_prog (s : State) (ws : List Word) : (s.setBdmIn ws).prog = s.prog := rfl
@[simp] theorem State.setBdmIn_free (s : State) (ws : List Word) : (s.setBdmIn ws).free = s.free := rfl
@[simp] theorem State.setBdmIn_stale (s : State) (ws : List Word) : (s.setBdmIn ws).stale = s.stale := rfl
@[simp] theorem State.setBdmIn_begun (s : State) (ws : List Word) : (s.setBdmIn ws).begun = s.begun := rfl
@[simp] theorem State.setBdmIn_plat_splitSpaces (s : State) (ws : List Word) : (s.setBdmIn ws).plat.splitSpaces = s.plat.splitSpaces := rfl
@[simp] theorem State.setBdmIn_plat_dataMap (s : State) (ws : List Word) : (s.setBdmIn ws).plat.dataMap = s.plat.dataMap := rfl
@[simp] theorem State.setBdmIn_plat_progMap (s : State) (ws : List Word) : (s.setBdmIn ws).plat.progMap = s.plat.progMap := rfl
@[simp] theorem State.setBdmIn_plat_dataBkpt (s : State) (ws : List Word) : (s.setBdmIn ws).plat.dataBkpt = s.plat.dataBkpt := rfl
@[simp] theorem State.setBdmIn_plat_progBkpt (s : State) (ws : List Word) : (s.setBdmIn ws).plat.progBkpt = s.plat.progBkpt := rfl
@[simp] theorem State.setBdmIn_plat_stopWake (s : State) (ws : List Word) : (s.setBdmIn ws).plat.stopWake = s.plat.stopWake := rfl
@[simp] theorem State.setBdmIn_plat_irq (s : State) (ws : List Word) : (s.setBdmIn ws).plat.irq = s.plat.irq := rfl
@[simp] theorem State.setBdmIn_plat_iack (s : State) (ws : List Word) : (s.setBdmIn ws).plat.iack = s.plat.iack := rfl
@[simp] theorem State.setBdmIn_plat_bkptAcks (s : State) (ws : List Word) : (s.setBdmIn ws).plat.bkptAcks = s.plat.bkptAcks := rfl
@[simp] theorem State.setBdmIn_plat_inputs (s : State) (ws : List Word) : (s.setBdmIn ws).plat.inputs = s.plat.inputs := rfl
@[simp] theorem State.setBdmIn_plat_bdmIn (s : State) (ws : List Word) : (s.setBdmIn ws).plat.bdmIn = ws := rfl
@[simp] theorem State.setBdmIn_plat_bdmOut (s : State) (ws : List Word) : (s.setBdmIn ws).plat.bdmOut = s.plat.bdmOut := rfl

@[simp] theorem State.takeWords_reg (s : State) (n : Nat) (ws : List Word) : (s.takeWords n ws).reg = s.reg := rfl
@[simp] theorem State.takeWords_mac (s : State) (n : Nat) (ws : List Word) : (s.takeWords n ws).mac = s.mac := rfl
@[simp] theorem State.takeWords_ctl (s : State) (n : Nat) (ws : List Word) : (s.takeWords n ws).ctl = s.ctl := rfl
@[simp] theorem State.takeWords_mem (s : State) (n : Nat) (ws : List Word) : (s.takeWords n ws).mem = s.mem := rfl
@[simp] theorem State.takeWords_prog (s : State) (n : Nat) (ws : List Word) : (s.takeWords n ws).prog = s.prog := rfl
@[simp] theorem State.takeWords_free (s : State) (n : Nat) (ws : List Word) : (s.takeWords n ws).free = s.free := rfl
@[simp] theorem State.takeWords_stale (s : State) (n : Nat) (ws : List Word) : (s.takeWords n ws).stale = s.stale := rfl
@[simp] theorem State.takeWords_begun (s : State) (n : Nat) (ws : List Word) : (s.takeWords n ws).begun = s.begun := rfl
@[simp] theorem State.takeWords_plat_splitSpaces (s : State) (n : Nat) (ws : List Word) : (s.takeWords n ws).plat.splitSpaces = s.plat.splitSpaces := rfl
@[simp] theorem State.takeWords_plat_dataMap (s : State) (n : Nat) (ws : List Word) : (s.takeWords n ws).plat.dataMap = s.plat.dataMap := rfl
@[simp] theorem State.takeWords_plat_progMap (s : State) (n : Nat) (ws : List Word) : (s.takeWords n ws).plat.progMap = s.plat.progMap := rfl
@[simp] theorem State.takeWords_plat_dataBkpt (s : State) (n : Nat) (ws : List Word) : (s.takeWords n ws).plat.dataBkpt = s.plat.dataBkpt := rfl
@[simp] theorem State.takeWords_plat_progBkpt (s : State) (n : Nat) (ws : List Word) : (s.takeWords n ws).plat.progBkpt = s.plat.progBkpt := rfl
@[simp] theorem State.takeWords_plat_stopWake (s : State) (n : Nat) (ws : List Word) : (s.takeWords n ws).plat.stopWake = s.plat.stopWake := rfl
@[simp] theorem State.takeWords_plat_irq (s : State) (n : Nat) (ws : List Word) : (s.takeWords n ws).plat.irq = s.plat.irq := rfl
@[simp] theorem State.takeWords_plat_iack (s : State) (n : Nat) (ws : List Word) : (s.takeWords n ws).plat.iack = s.plat.iack := rfl
@[simp] theorem State.takeWords_plat_bkptAcks (s : State) (n : Nat) (ws : List Word) : (s.takeWords n ws).plat.bkptAcks = s.plat.bkptAcks := rfl
@[simp] theorem State.takeWords_plat_inputs (s : State) (n : Nat) (ws : List Word) : (s.takeWords n ws).plat.inputs = s.plat.inputs := rfl
@[simp] theorem State.takeWords_plat_bdmIn (s : State) (n : Nat) (ws : List Word) : (s.takeWords n ws).plat.bdmIn = ws := rfl
@[simp] theorem State.takeWords_plat_bdmOut (s : State) (n : Nat) (ws : List Word) : (s.takeWords n ws).plat.bdmOut = s.plat.bdmOut ++ List.replicate n notReady := rfl

@[simp] theorem State.reply_reg (s : State) (w : BitVec 17) : (s.reply w).reg = s.reg := rfl
@[simp] theorem State.reply_mac (s : State) (w : BitVec 17) : (s.reply w).mac = s.mac := rfl
@[simp] theorem State.reply_ctl (s : State) (w : BitVec 17) : (s.reply w).ctl = s.ctl := rfl
@[simp] theorem State.reply_mem (s : State) (w : BitVec 17) : (s.reply w).mem = s.mem := rfl
@[simp] theorem State.reply_prog (s : State) (w : BitVec 17) : (s.reply w).prog = s.prog := rfl
@[simp] theorem State.reply_free (s : State) (w : BitVec 17) : (s.reply w).free = s.free := rfl
@[simp] theorem State.reply_stale (s : State) (w : BitVec 17) : (s.reply w).stale = s.stale := rfl
@[simp] theorem State.reply_begun (s : State) (w : BitVec 17) : (s.reply w).begun = s.begun := rfl
@[simp] theorem State.reply_plat_splitSpaces (s : State) (w : BitVec 17) : (s.reply w).plat.splitSpaces = s.plat.splitSpaces := rfl
@[simp] theorem State.reply_plat_dataMap (s : State) (w : BitVec 17) : (s.reply w).plat.dataMap = s.plat.dataMap := rfl
@[simp] theorem State.reply_plat_progMap (s : State) (w : BitVec 17) : (s.reply w).plat.progMap = s.plat.progMap := rfl
@[simp] theorem State.reply_plat_dataBkpt (s : State) (w : BitVec 17) : (s.reply w).plat.dataBkpt = s.plat.dataBkpt := rfl
@[simp] theorem State.reply_plat_progBkpt (s : State) (w : BitVec 17) : (s.reply w).plat.progBkpt = s.plat.progBkpt := rfl
@[simp] theorem State.reply_plat_stopWake (s : State) (w : BitVec 17) : (s.reply w).plat.stopWake = s.plat.stopWake := rfl
@[simp] theorem State.reply_plat_irq (s : State) (w : BitVec 17) : (s.reply w).plat.irq = s.plat.irq := rfl
@[simp] theorem State.reply_plat_iack (s : State) (w : BitVec 17) : (s.reply w).plat.iack = s.plat.iack := rfl
@[simp] theorem State.reply_plat_bkptAcks (s : State) (w : BitVec 17) : (s.reply w).plat.bkptAcks = s.plat.bkptAcks := rfl
@[simp] theorem State.reply_plat_inputs (s : State) (w : BitVec 17) : (s.reply w).plat.inputs = s.plat.inputs := rfl
@[simp] theorem State.reply_plat_bdmIn (s : State) (w : BitVec 17) : (s.reply w).plat.bdmIn = s.plat.bdmIn := rfl
@[simp] theorem State.reply_plat_bdmOut (s : State) (w : BitVec 17) : (s.reply w).plat.bdmOut = s.plat.bdmOut ++ [w] := rfl

@[simp] theorem State.acknowledgeBreakpoint_reg (s : State) : s.acknowledgeBreakpoint.reg = s.reg := rfl
@[simp] theorem State.acknowledgeBreakpoint_mac (s : State) : s.acknowledgeBreakpoint.mac = s.mac := rfl
@[simp] theorem State.acknowledgeBreakpoint_ctl (s : State) : s.acknowledgeBreakpoint.ctl = s.ctl := rfl
@[simp] theorem State.acknowledgeBreakpoint_mem (s : State) : s.acknowledgeBreakpoint.mem = s.mem := rfl
@[simp] theorem State.acknowledgeBreakpoint_prog (s : State) : s.acknowledgeBreakpoint.prog = s.prog := rfl
@[simp] theorem State.acknowledgeBreakpoint_free (s : State) : s.acknowledgeBreakpoint.free = s.free := rfl
@[simp] theorem State.acknowledgeBreakpoint_stale (s : State) : s.acknowledgeBreakpoint.stale = s.stale := rfl
@[simp] theorem State.acknowledgeBreakpoint_begun (s : State) : s.acknowledgeBreakpoint.begun = s.begun := rfl
@[simp] theorem State.acknowledgeBreakpoint_plat_splitSpaces (s : State) : s.acknowledgeBreakpoint.plat.splitSpaces = s.plat.splitSpaces := rfl
@[simp] theorem State.acknowledgeBreakpoint_plat_dataMap (s : State) : s.acknowledgeBreakpoint.plat.dataMap = s.plat.dataMap := rfl
@[simp] theorem State.acknowledgeBreakpoint_plat_progMap (s : State) : s.acknowledgeBreakpoint.plat.progMap = s.plat.progMap := rfl
@[simp] theorem State.acknowledgeBreakpoint_plat_dataBkpt (s : State) : s.acknowledgeBreakpoint.plat.dataBkpt = s.plat.dataBkpt := rfl
@[simp] theorem State.acknowledgeBreakpoint_plat_progBkpt (s : State) : s.acknowledgeBreakpoint.plat.progBkpt = s.plat.progBkpt := rfl
@[simp] theorem State.acknowledgeBreakpoint_plat_stopWake (s : State) : s.acknowledgeBreakpoint.plat.stopWake = s.plat.stopWake := rfl
@[simp] theorem State.acknowledgeBreakpoint_plat_irq (s : State) : s.acknowledgeBreakpoint.plat.irq = s.plat.irq := rfl
@[simp] theorem State.acknowledgeBreakpoint_plat_iack (s : State) : s.acknowledgeBreakpoint.plat.iack = s.plat.iack := rfl
@[simp] theorem State.acknowledgeBreakpoint_plat_inputs (s : State) : s.acknowledgeBreakpoint.plat.inputs = s.plat.inputs := rfl
@[simp] theorem State.acknowledgeBreakpoint_plat_bdmIn (s : State) : s.acknowledgeBreakpoint.plat.bdmIn = s.plat.bdmIn := rfl
@[simp] theorem State.acknowledgeBreakpoint_plat_bdmOut (s : State) : s.acknowledgeBreakpoint.plat.bdmOut = s.plat.bdmOut := rfl
@[simp] theorem State.acknowledgeBreakpoint_plat_bkptAcks (s : State) : s.acknowledgeBreakpoint.plat.bkptAcks = s.plat.bkptAcks + 1 := rfl

/-- New request lines: they stand in the platform, and an IRQ7 that becomes asserted sets its edge latch
(60_exceptions.md R723). -/
theorem State.setLines_spec (s : State) (l : IrqLines) :
    (s.setLines l).plat = { s.plat with irq := l } ∧
      (s.setLines l).ctl = { s.ctl with nmiLatch := s.ctl.nmiLatch || (l.irq7 && !s.plat.irq.irq7) } ∧
      (s.setLines l).reg = s.reg ∧ (s.setLines l).mac = s.mac ∧ (s.setLines l).mem = s.mem ∧
      (s.setLines l).prog = s.prog := by
  unfold State.setLines
  simp only
  split
  · rename_i h; rw [h]; simp [State.setNmiLatch]
  · rename_i h; rw [Bool.not_eq_true] at h; rw [h]; simp

end Sys2Proof.Machine
end

