-- ==== Sys2Proof/Laws/Debug.lean ====
section
/-! SUPPORT. What the memory cycles of background debugging mode leave: one lemma per shared operation of Debug.lean. -/

namespace Sys2Proof.Machine

/-- Where memory answers, RDMEM's byte is the byte there, and nothing changes. -/
theorem State.debugRead8_memory (s : State) (a : Addr) (h : s.readable a = true) :
    s.debugRead8 a = (s.dataByte a, s) := by
  unfold State.readable at h
  unfold State.debugRead8
  cases hk : kindAt s.plat.dataMap a.toNat <;> simp [hk, RegionKind.holds] at h <;> rfl

/-- Where memory answers, RDMEM's word is the word there, and nothing changes. -/
theorem State.debugRead16_memory (s : State) (a : Addr) (h : s.readable a = true) (h' : s.readable (a + 1) = true) :
    s.debugRead16 a = (s.dataWord a, s) := by
  simp only [State.debugRead16, State.debugRead8_memory s a h, State.debugRead8_memory s (a + 1) h', State.dataWord]

/-- Where memory answers, RPMEM's word is the word at the even address, and nothing changes. -/
theorem State.debugReadProg_memory (s : State) (a : Addr) (h : s.fetchable (evenAddr a) = true) :
    s.debugReadProg a = (s.progWord (evenAddr a), s) := by
  unfold State.fetchable at h
  unfold State.debugReadProg
  cases hk : kindAt s.plat.progMap (evenAddr a).toNat <;> simp [hk, RegionKind.holds] at h <;>
    simp [State.progWord, State.progByte, hk]

/-- WDMEM's byte changes data memory only, there only, and only in RAM. -/
theorem State.debugWrite8_spec (s : State) (a : Addr) (v : Byte) :
    (∃ m, s.debugWrite8 a v = { s with mem := m }) ∧ StoresByte s (s.debugWrite8 a v) a v := by
  unfold State.debugWrite8
  cases hk : kindAt s.plat.dataMap a.toNat <;> refine ⟨⟨_, rfl⟩, fun b => ?_⟩ <;>
    simp only [State.dataByte, State.writable, hk, Memory.read_write, toNat_inj_iff] <;> simp

/-- WDMEM's word changes data memory only, its two bytes only, each only in RAM. -/
theorem State.debugWrite16_spec (s : State) (a : Addr) (v : Word) :
    (∃ m, s.debugWrite16 a v = { s with mem := m }) ∧ StoresWord s (s.debugWrite16 a v) a v := by
  obtain ⟨⟨m, h1⟩, h2⟩ := s.debugWrite8_spec a (hi v)
  obtain ⟨⟨m', h3⟩, h4⟩ := (s.debugWrite8 a (hi v)).debugWrite8_spec (a + 1) (lo v)
  refine ⟨⟨m', ?_⟩, fun b => ?_⟩
  · show (s.debugWrite8 a (hi v)).debugWrite8 (a + 1) (lo v) = _
    rw [h3, h1]
  · have e := h4 b
    have w : ∀ x, (s.debugWrite8 a (hi v)).writable x = s.writable x := fun x => by rw [h1]; rfl
    have := add_one_ne a
    rw [h2 b, w] at e
    show ((s.debugWrite8 a (hi v)).debugWrite8 (a + 1) (lo v)).dataByte b = _
    rw [e]
    grind

/-- A byte of program space written changes the memory that program space reads, there only. -/
theorem State.storeProg_spec (s : State) (a : Addr) (v : Byte) :
    (∃ m p, s.storeProg a.toNat v = { s with mem := m, prog := p } ∧ (if s.plat.splitSpaces then m = s.mem else p = s.prog)) ∧
      ∀ b, (s.storeProg a.toNat v).progByte b = if b = a then v else s.progByte b := by
  unfold State.storeProg
  cases hs : s.plat.splitSpaces with
  | true =>
    simp only [if_true]
    refine ⟨⟨s.mem, _, rfl, rfl⟩, fun b => ?_⟩
    simp only [State.progByte, State.progMem, hs, if_true, Memory.read_write, toNat_inj_iff]
  | false =>
    simp only [Bool.false_eq_true, if_false]
    refine ⟨⟨_, s.prog, rfl, rfl⟩, fun b => ?_⟩
    simp only [State.progByte, State.progMem, hs, Bool.false_eq_true, if_false, Memory.read_write, toNat_inj_iff]

/-- WPMEM's word changes the memory that program space reads, its two bytes at the even address only, only in RAM. -/
theorem State.debugWriteProg_spec (s : State) (a : Addr) (v : Word) :
    (∃ m p, s.debugWriteProg a v = { s with mem := m, prog := p } ∧
      (if s.plat.splitSpaces then m = s.mem else p = s.prog)) ∧
      StoresProgWord s (s.debugWriteProg a v) (kindAt s.plat.progMap (evenAddr a).toNat == .ram) (evenAddr a) v := by
  have kept (h : s.debugWriteProg a v = s) (hk : (kindAt s.plat.progMap (evenAddr a).toNat == .ram) = false) :
      (∃ m p, s.debugWriteProg a v = { s with mem := m, prog := p } ∧
        (if s.plat.splitSpaces then m = s.mem else p = s.prog)) ∧
        StoresProgWord s (s.debugWriteProg a v) (kindAt s.plat.progMap (evenAddr a).toNat == .ram) (evenAddr a) v := by
    rw [h, hk]
    exact ⟨⟨s.mem, s.prog, rfl, by split <;> rfl⟩, fun b => by simp, by split <;> rfl⟩
  cases hk : kindAt s.plat.progMap (evenAddr a).toNat with
  | ram =>
    have e : s.debugWriteProg a v =
        (s.storeProg (evenAddr a).toNat (hi v)).storeProg (evenAddr a + 1).toNat (lo v) := by
      unfold State.debugWriteProg; simp only [hk]
    obtain ⟨⟨m, p, h1, h2⟩, h3⟩ := s.storeProg_spec (evenAddr a) (hi v)
    obtain ⟨⟨m', p', h4, h5⟩, h6⟩ := (s.storeProg (evenAddr a).toNat (hi v)).storeProg_spec (evenAddr a + 1) (lo v)
    have hx : if s.plat.splitSpaces then m' = s.mem else p' = s.prog := by
      rw [h1] at h5; split <;> rename_i hs <;> simp only [hs] at h2 h5 <;> exact h5.trans h2
    refine ⟨⟨m', p', by rw [e, h4, h1], hx⟩, fun b => ?_, ?_⟩
    · rw [e, h6 b, h3 b]
      have := add_one_ne (evenAddr a)
      simp only [beq_self_eq_true, and_true]
      grind
    · rw [e, h4]; exact hx
  | rom => rw [← hk]; exact kept (by unfold State.debugWriteProg; simp only [hk]) (by rw [hk]; rfl)
  | romBusError => rw [← hk]; exact kept (by unfold State.debugWriteProg; simp only [hk]) (by rw [hk]; rfl)
  | device => rw [← hk]; exact kept (by unfold State.debugWriteProg; simp only [hk]) (by rw [hk]; rfl)
  | busError => rw [← hk]; exact kept (by unfold State.debugWriteProg; simp only [hk]) (by rw [hk]; rfl)

end Sys2Proof.Machine
end

