-- ==== Sys2Proof/Laws/Exceptions.lean ====
section
/-! SUPPORT. Taking an exception in RAM: what each part and the whole of it leave. -/

namespace Sys2Proof.Machine

theorem State.alive_congr {s t : State} (h : t.ctl.run = s.ctl.run) : t.alive = s.alive := by
  simp [State.alive, h]

theorem State.whileAlive_of_alive (s : State) (f : State → State) (h : s.alive = true) : s.whileAlive f = f s := by
  simp [State.whileAlive, h]

/-- One word of the frame in RAM: its two bytes, SK : SP 2 lower, the BKPT latch where BKPT is asserted, nothing else. -/
theorem State.stackWord_spec (s : State) (v : Word) (ha : s.alive = true) (h0 : s.writable s.sksp = true)
    (h1 : s.writable (s.sksp + 1) = true) :
    (s.stackWord v).reg = s.reg.withS (s.sksp - 2) ∧ (s.stackWord v).mac = s.mac ∧
      (s.stackWord v).ctl =
        { s.ctl with bkptLatch := s.ctl.bkptLatch || s.breaks s.sksp || s.breaks (s.sksp + 1) } ∧
      OutsideKept s (s.stackWord v) ∧ StoresWord s (s.stackWord v) s.sksp v := by
  obtain ⟨k1, d1, c1⟩ := s.write8_ram_spec s.sksp (hi v) h0
  have w1 : (s.write8 s.sksp (hi v)).writable (s.sksp + 1) = true := by rw [k1.writable]; exact h1
  obtain ⟨k2, d2, c2⟩ := (s.write8 s.sksp (hi v)).write8_ram_spec (s.sksp + 1) (lo v) w1
  have a1 : (s.write8 s.sksp (hi v)).alive = true := (State.alive_congr (by rw [c1])).trans ha
  have a2 : ((s.write8 s.sksp (hi v)).write8 (s.sksp + 1) (lo v)).alive = true :=
    (State.alive_congr (by rw [c2])).trans a1
  have e : s.stackWord v = ((s.write8 s.sksp (hi v)).write8 (s.sksp + 1) (lo v)).setSksp
      (((s.write8 s.sksp (hi v)).write8 (s.sksp + 1) (lo v)).sksp - 2) := by
    rw [State.stackWord, State.whileAlive_of_alive _ _ a1, State.whileAlive_of_alive _ _ a2]
  have kr := k2.reg.trans k1.reg
  rw [e]
  refine ⟨?_, k2.mac.trans k1.mac, ?_, (k1.trans k2).out, fun b => ?_⟩
  · rw [State.reg_setSksp, State.sksp_congr kr, kr]
  · show ((s.write8 s.sksp (hi v)).write8 (s.sksp + 1) (lo v)).ctl = _
    rw [c2, c1, k1.breaks]
  · show State.dataByte ((s.write8 s.sksp (hi v)).write8 (s.sksp + 1) (lo v)) b = _
    have e1 := d1 b
    have e2 := d2 b
    rw [k1.writable] at e2
    rw [e2, e1]
    have := add_one_ne s.sksp
    grind

/-- The CCR that the handler starts with, but for PK. -/
def handlerCcr (c : Word) : Option (BitVec 3) → Word
  | none => withPK 0 c
  | some l => withIP l (withPK 0 c)

theorem State.maskForHandler_reg (s : State) (l : Option (BitVec 3)) :
    (s.maskForHandler l).reg = { s.reg with ccr := handlerCcr s.reg.ccr l } := by
  cases l with
  | none => rfl
  | some l => unfold State.maskForHandler; simp only; split <;> rfl

theorem State.maskForHandler_rest (s : State) (l : Option (BitVec 3)) :
    (s.maskForHandler l).mem = s.mem ∧ (s.maskForHandler l).mac = s.mac ∧ OutsideKept s (s.maskForHandler l) ∧
      (s.maskForHandler l).ctl = { s.ctl with nmiLatch := s.ctl.nmiLatch && decide (l ≠ some 7) } := by
  cases l with
  | none => exact ⟨rfl, rfl, ⟨rfl, rfl⟩, by simp [State.maskForHandler, State.setCcr]⟩
  | some l =>
    unfold State.maskForHandler; simp only
    split
    · rename_i h; subst h; exact ⟨rfl, rfl, ⟨rfl, rfl⟩, by simp [State.setNmiLatch, State.setCcr]⟩
    · rename_i h
      refine ⟨rfl, rfl, ⟨rfl, rfl⟩, ?_⟩
      have : decide (some l ≠ some (7 : BitVec 3)) = true := decide_eq_true fun e => h (Option.some.inj e)
      rw [this, Bool.and_true]; rfl

/-- The vector is read from memory and execution goes on there. -/
theorem State.enterHandler_spec (s : State) (n : Byte) (ha : s.alive = true)
    (h0 : s.readable (zext20 n <<< 1) = true) (h1 : s.readable ((zext20 n <<< 1) + 1) = true) :
    (s.enterHandler n).ia = evenAddr (zext20 (s.dataWord (zext20 n <<< 1))) ∧
      (s.enterHandler n).reg = { s.reg with
        pc := (s.enterHandler n).reg.pc, ccr := withPK (fieldPK (s.enterHandler n).reg.ccr) s.reg.ccr } ∧
      (s.enterHandler n).mem = s.mem ∧ (s.enterHandler n).mac = s.mac ∧ OutsideKept s (s.enterHandler n) ∧
      (s.enterHandler n).ctl =
        { s.ctl with
          inhibit := true
          bkptLatch := s.ctl.bkptLatch || s.breaks (zext20 n <<< 1) || s.breaks ((zext20 n <<< 1) + 1) } := by
  obtain ⟨k1, m1, v1, c1⟩ := s.read8_memory_spec (zext20 n <<< 1) h0
  obtain ⟨k2, m2, v2, c2⟩ :=
    (s.read8 (zext20 n <<< 1)).2.read8_memory_spec ((zext20 n <<< 1) + 1) (by rw [k1.readable]; exact h1)
  have a1 : (s.read8 (zext20 n <<< 1)).2.alive = true := (State.alive_congr (by rw [c1])).trans ha
  have a2 : ((s.read8 (zext20 n <<< 1)).2.read8 ((zext20 n <<< 1) + 1)).2.alive = true :=
    (State.alive_congr (by rw [c2])).trans a1
  have e : s.enterHandler n = (((s.read8 (zext20 n <<< 1)).2.read8 ((zext20 n <<< 1) + 1)).2.jumpTo
      (zext20 (s.dataWord (zext20 n <<< 1)))).setInhibit true := by
    rw [State.enterHandler]
    simp only
    rw [State.whileAlive_of_alive _ _ a1, State.whileAlive_of_alive _ _ a2, v1, v2]
    simp only [State.dataWord, State.dataByte, m1]
  have kr := k2.reg.trans k1.reg
  have ia : ∀ t : State, (t.setInhibit true).ia = t.ia := fun _ => rfl
  have er : ∀ t : State, (t.setInhibit true).reg = t.reg := fun _ => rfl
  rw [e]
  refine ⟨by rw [ia, State.ia_jumpTo], ?_, m2.trans m1, k2.mac.trans k1.mac, (k1.trans k2).out, ?_⟩
  · rw [er, State.reg_jumpTo, kr]; simp
  · show { ((s.read8 (zext20 n <<< 1)).2.read8 ((zext20 n <<< 1) + 1)).2.ctl with inhibit := true } = _
    rw [c2, c1, k1.breaks]

theorem vector_address (n : Byte) : BitVec.ofNat 20 (2 * n.toNat) = zext20 n <<< 1 := by
  apply BitVec.eq_of_toNat_eq
  have := n.isLt
  simp [zext20, Nat.shiftLeft_eq]; omega

theorem vector_address_one (n : Byte) : BitVec.ofNat 20 (2 * n.toNat + 1) = (zext20 n <<< 1) + 1 := by
  rw [← vector_address, BitVec.ofNat_add]; rfl

theorem sub_two_add_one (x : Addr) : x - 2 + 1 = x - 1 := by bv_omega

theorem sub_two_sub_two (x : Addr) : x - 2 - 2 = x - 4 := by bv_omega

/-- The four bytes of a frame are distinct. -/
theorem frame_distinct (x : Addr) : x ≠ x - 2 ∧ x ≠ x - 1 ∧ x + 1 ≠ x - 2 ∧ x + 1 ≠ x - 1 ∧ x + 1 ≠ x := by
  refine ⟨?_, ?_, ?_, ?_, add_one_ne x⟩ <;> (intro h; bv_omega)

/-- Two words stacked in RAM. -/
theorem State.stackTwo_spec (s : State) (v w : Word) (ha : s.alive = true) (hf : s.frameWritable = true) :
    ((s.stackWord v).stackWord w).reg = s.reg.withS (s.sksp - 4) ∧ ((s.stackWord v).stackWord w).mac = s.mac ∧
      ((s.stackWord v).stackWord w).ctl = { s.ctl with
        bkptLatch := s.ctl.bkptLatch || s.breaks s.sksp || s.breaks (s.sksp + 1) || s.breaks (s.sksp - 2) ||
          s.breaks (s.sksp - 1) } ∧
      OutsideKept s ((s.stackWord v).stackWord w) ∧ (s.stackWord v).alive = true ∧
      ∀ b, ((s.stackWord v).stackWord w).dataByte b =
        if b = s.sksp then hi v else if b = s.sksp + 1 then lo v
        else if b = s.sksp - 2 then hi w else if b = s.sksp - 1 then lo w
        else s.dataByte b := by
  simp only [State.frameWritable, Bool.and_eq_true] at hf
  obtain ⟨⟨⟨f0, f1⟩, f2⟩, f3⟩ := hf
  obtain ⟨r1, m1, c1, o1, d1⟩ := s.stackWord_spec v ha f0 f1
  have sp1 : (s.stackWord v).sksp = s.sksp - 2 := by rw [State.sksp, r1]; simp [Regs.withS]
  have a1 : (s.stackWord v).alive = true := (State.alive_congr (by rw [c1])).trans ha
  have wr : ∀ a, (s.stackWord v).writable a = s.writable a := fun a => by simp [State.writable, o1.1]
  obtain ⟨r2, m2, c2, o2, d2⟩ := (s.stackWord v).stackWord_spec w a1
    (by rw [sp1, wr]; exact f2) (by rw [sp1, sub_two_add_one, wr]; exact f3)
  refine ⟨?_, m2.trans m1, ?_, ⟨o2.1.trans o1.1, o2.2.trans o1.2⟩, a1, fun b => ?_⟩
  · rw [r2, r1, sp1, sub_two_sub_two]; rfl
  · have br : ∀ a, (s.stackWord v).breaks a = s.breaks a := fun a => by simp [State.breaks, o1.1]
    rw [c2, c1, sp1, br, br, sub_two_add_one]
  · rw [d2 b, d1 b, sp1, sub_two_add_one, wr, wr]
    simp only [f0, f1, f2, f3, and_true]
    obtain ⟨n1, n2, n3, n4, -⟩ := frame_distinct s.sksp
    by_cases h0 : b = s.sksp
    · subst h0; rw [if_neg n1, if_neg n2, if_pos rfl, if_pos rfl]
    · by_cases h1 : b = s.sksp + 1
      · subst h1; rw [if_neg n3, if_neg n4, if_neg h0, if_pos rfl, if_neg h0, if_pos rfl]
      · rw [if_neg h0, if_neg h1, if_neg h0, if_neg h1]

/-- Taking an exception with stack and vector in RAM (60_exceptions.md R740, R741, R743). -/
theorem State.takeException_spec (s : State) (r : Addr) (n : Byte) (l : Option (BitVec 3))
    (h : s.exceptionReady n = true) :
    FrameStacked s (s.takeException r n l) r ∧ (s.takeException r n l).ia = (s.takeException r n l).vectorTarget n ∧
      (s.takeException r n l).reg = { (s.reg.withS (s.sksp - 4)) with
        pc := (s.takeException r n l).reg.pc,
        ccr := withPK (fieldPK (s.takeException r n l).reg.ccr) (handlerCcr s.reg.ccr l) } ∧
      (s.takeException r n l).mac = s.mac ∧ OutsideKept s (s.takeException r n l) ∧
      (s.takeException r n l).ctl = { s.ctl with
        inhibit := true, bkptLatch := s.ctl.bkptLatch || s.exceptionBreaks n,
        nmiLatch := s.ctl.nmiLatch && decide (l ≠ some 7) } := by
  simp only [State.exceptionReady, State.vectorReadable, Bool.and_eq_true] at h
  obtain ⟨⟨ha, hf⟩, v0, v1⟩ := h
  rw [vector_address] at v0
  rw [vector_address_one] at v1
  obtain ⟨r2, m2, c2, o2, a1, d2⟩ := s.stackTwo_spec (offset r) (withPK (bank r) s.reg.ccr) ha hf
  have e : s.takeException r n l =
      (((s.stackWord (offset r)).stackWord (withPK (bank r) s.reg.ccr)).maskForHandler l).enterHandler n := by
    rw [State.takeException, State.whileAlive_of_alive _ _ a1,
      State.whileAlive_of_alive _ _ ((State.alive_congr (by rw [c2])).trans ha)]
  rw [e]
  clear e a1
  generalize (s.stackWord (offset r)).stackWord (withPK (bank r) s.reg.ccr) = s2 at *
  have a2 : s2.alive = true := (State.alive_congr (by rw [c2])).trans ha
  obtain ⟨mm, mc, mo, mctl⟩ := s2.maskForHandler_rest l
  have mr := s2.maskForHandler_reg l
  have rd : ∀ a, (s2.maskForHandler l).readable a = s.readable a := fun a => by
    simp [State.readable, mo.1, o2.1]
  obtain ⟨ei, er, em, ec, eo, ectl⟩ := (s2.maskForHandler l).enterHandler_spec n
    ((State.alive_congr (by rw [mctl])).trans a2) (by rw [rd]; exact v0) (by rw [rd]; exact v1)
  generalize (s2.maskForHandler l).enterHandler n = t at *
  have rr : t.reg = { (s.reg.withS (s.sksp - 4)) with
      pc := t.reg.pc, ccr := withPK (fieldPK t.reg.ccr) (handlerCcr s.reg.ccr l) } := by
    rw [er, mr, r2]; simp [Regs.withS]
  refine ⟨⟨?_, fun b => ?_⟩, ?_, rr, ?_, ?_, ?_⟩
  · rw [State.sksp, rr]; simp [Regs.withS]
  · rw [State.dataByte, em, mm]; exact d2 b
  · rw [ei, State.vectorTarget, vector_address]
    simp [State.dataWord, State.dataByte, em]
  · rw [ec, mc, m2]
  · exact ⟨eo.1.trans (mo.1.trans o2.1), eo.2.trans (mo.2.trans o2.2)⟩
  · have br : ∀ a, (s2.maskForHandler l).breaks a = s.breaks a := fun a => by simp [State.breaks, mo.1, o2.1]
    rw [ectl, mctl, c2, br, br, State.exceptionBreaks, vector_address, vector_address_one]
    simp only [Bool.or_assoc]

end Sys2Proof.Machine
end

