-- ==== Sys2Proof/Laws/Fetch.lean ====
section
/-! SUPPORT. What fetching an instruction's three words can do: memory answers, or a bus error sets the latch, or, inside
the window, it is a double bus fault (60_exceptions.md R732, R733). -/

namespace Sys2Proof.Machine

/-- Where memory answers, a program fetch gives the word there and changes nothing. -/
theorem State.progRead16_memory (s : State) (a : Addr) (h : s.fetchable a = true) :
    s.progRead16 a = (s.progWord a, s) := by
  unfold State.fetchable at h
  unfold State.progRead16
  cases hk : kindAt s.plat.progMap a.toNat <;> simp [hk, RegionKind.holds] at h <;>
    simp [State.progWord, State.progByte]

/-- A program fetch that ends in BERR reads $FFFF. -/
theorem State.progRead16_fails (s : State) (a : Addr) (h : s.fetchFails a = true) :
    s.progRead16 a = (0xFFFF, s.signalBusError) := by
  unfold State.progRead16
  rw [beq_iff_eq.mp h]

/-- Setting the BERR latch to what it is changes nothing. -/
theorem State.setBerrLatch_self (s : State) : s.setBerrLatch s.ctl.berrLatch = s := rfl

/-- Outside the window, a fetch that memory answers or that ends in BERR gives the word and sets the latch if it
fails. -/
theorem State.progRead16_executing (s : State) (a : Addr) (h : s.executing = true)
    (hk : (s.fetchable a || s.fetchFails a) = true) :
    s.progRead16 a = (s.fetchedWord a, s.setBerrLatch (s.ctl.berrLatch || s.fetchFails a)) := by
  have hw : s.ctl.berrWindow = false := by simpa [State.executing] using h
  unfold State.fetchedWord
  cases hf : s.fetchFails a with
  | true =>
    rw [State.progRead16_fails s a hf, Bool.or_true, if_pos rfl, State.signalBusError, hw]; rfl
  | false =>
    rw [hf, Bool.or_false] at hk
    rw [State.progRead16_memory s a hk, Bool.or_false, State.setBerrLatch_self]; rfl

/-- Outside the window, the fetch of an instruction gives its three words and sets the latch if one of them fails. -/
theorem State.fetch_executing (s : State) (h : s.executing = true) (ha : s.alive = true) (hk : s.fetchKnown = true) :
    s.fetch = ((s.fetchedWord s.ia, s.fetchedWord (s.ia + 2), s.fetchedWord (s.ia + 4)),
      s.setBerrLatch (s.ctl.berrLatch || s.fetchBroken)) := by
  simp only [State.fetchKnown, Bool.and_eq_true] at hk
  obtain ⟨⟨k0, k1⟩, k2⟩ := hk
  have step (b : Bool) (a : Addr) (hka : (s.fetchable a || s.fetchFails a) = true) :
      (s.setBerrLatch b).fetchMore a = (s.fetchedWord a, s.setBerrLatch (b || s.fetchFails a)) := by
    have := State.progRead16_executing (s.setBerrLatch b) a h hka
    unfold State.fetchMore
    rw [if_pos (show (s.setBerrLatch b).alive = true from ha), this]; rfl
  unfold State.fetch
  simp only [State.progRead16_executing s s.ia h k0, step _ _ k1, step _ _ k2, State.fetchBroken, Bool.or_assoc]

/-- A program read delivers its word, takes a free value if it must, and sets the BERR latch if it fails; inside the window
it must not fail. -/
theorem State.progRead16_spec (s : State) (a : Addr) (h : s.executing = true ∨ s.fetchFails a = false) :
    (s.progRead16 a).2 = { s with
      free := (s.progRead16 a).2.free, ctl := { s.ctl with berrLatch := s.ctl.berrLatch || s.fetchFails a } } := by
  cases hf : s.fetchFails a with
  | true =>
    have hw : s.ctl.berrWindow = false := by simpa [State.executing] using h.resolve_right (by simp [hf])
    rw [State.progRead16_fails s a hf, State.signalBusError, hw, Bool.or_true]; rfl
  | false =>
    unfold State.fetchFails at hf
    unfold State.progRead16
    cases hk : kindAt s.plat.progMap a.toNat <;> simp [hk] at hf <;> simp [State.freshWord]

/-- A double bus fault changes PK : PC if background mode is enabled, the run state, and nothing else. -/
theorem State.doubleBusFault_spec (s : State) :
    RegsBecome s.reg s.doubleBusFault ∧ CcrKept [] s s.doubleBusFault ∧
      (s.ctl.bdmFlag = false → s.doubleBusFault.pkpc = s.pkpc) ∧ s.doubleBusFault.mac = s.mac ∧
      s.doubleBusFault.ctl = { s.ctl with run := if s.ctl.bdmFlag then .background else .halted } ∧
      s.doubleBusFault.mem = s.mem ∧ OutsideKept s s.doubleBusFault ∧ s.doubleBusFault.alive = false := by
  unfold State.doubleBusFault
  cases hb : s.ctl.bdmFlag with
  | true =>
    simp only [if_true]
    refine ⟨rfl, fun k h4 _ _ => ?_, (fun h => nomatch h), rfl, rfl, rfl, ⟨rfl, rfl⟩, rfl⟩
    show (withPK _ s.reg.ccr).getLsbD k = _
    rw [getLsbD_withPK, if_neg (by omega)]
  | false =>
    simp only [Bool.false_eq_true, if_false]
    exact ⟨rfl, fun _ _ _ _ => rfl, fun _ => rfl, rfl, rfl, rfl, ⟨rfl, rfl⟩, rfl⟩

/-- Once a double bus fault has come, nothing more is fetched. -/
theorem State.fetchMore_dead (s : State) (a : Addr) (h : s.alive = false) : s.fetchMore a = (0, s) := by
  simp [State.fetchMore, h]

/-- Inside the window, memory that answers every fetch gives the three words and changes nothing. -/
theorem State.fetch_memory (s : State) (ha : s.alive = true) (hk : s.fetchKnown = true)
    (hb : s.fetchBroken = false) :
    s.fetch = ((s.progWord s.ia, s.progWord (s.ia + 2), s.progWord (s.ia + 4)), s) := by
  simp only [State.fetchBroken, Bool.or_eq_false_iff] at hb
  obtain ⟨⟨f0, f1⟩, f2⟩ := hb
  simp only [State.fetchKnown, f0, f1, f2, Bool.or_false, Bool.and_eq_true] at hk
  obtain ⟨⟨k0, k1⟩, k2⟩ := hk
  unfold State.fetch State.fetchMore
  simp only [State.progRead16_memory s _ k0, ha, if_true, State.progRead16_memory s _ k1, State.progRead16_memory s _ k2]

/-- Inside the window, a fetch that ends in BERR is a double bus fault at once. -/
theorem State.fetch_window (s : State) (hw : s.ctl.berrWindow = true) (ha : s.alive = true)
    (hk : s.fetchKnown = true) (hb : s.fetchBroken = true) : s.fetch.2 = s.doubleBusFault := by
  have fails : ∀ a, s.fetchFails a = true → s.progRead16 a = (0xFFFF, s.doubleBusFault) := fun a h => by
    rw [State.progRead16_fails s a h, State.signalBusError, hw, if_pos rfl]
  have dead := s.doubleBusFault_spec.2.2.2.2.2.2.2
  have known : ∀ a, (s.fetchable a || s.fetchFails a) = true → s.fetchFails a = false → s.fetchable a = true :=
    fun a h h' => by rwa [h', Bool.or_false] at h
  simp only [State.fetchKnown, Bool.and_eq_true] at hk
  obtain ⟨⟨k0, k1⟩, k2⟩ := hk
  unfold State.fetch
  cases f0 : s.fetchFails s.ia with
  | true => simp only [fails _ f0, State.fetchMore_dead _ _ dead]
  | false =>
    cases f1 : s.fetchFails (s.ia + 2) with
    | true =>
      simp only [State.progRead16_memory s _ (known _ k0 f0), State.fetchMore, ha, if_true, fails _ f1, dead,
        Bool.false_eq_true, if_false]
    | false =>
      have f2 : s.fetchFails (s.ia + 4) = true := by rwa [State.fetchBroken, f0, f1] at hb
      simp only [State.progRead16_memory s _ (known _ k0 f0), State.progRead16_memory s _ (known _ k1 f1),
        State.fetchMore, ha, if_true, fails _ f2]

/-- The prefetch before an asynchronous exception changes nothing but the BERR latch, if it fails, and the free values
used; inside the window it must not fail. -/
theorem State.prefetch_spec (s : State) (h : s.executing = true ∨ s.fetchFails (s.ia + 4) = false) :
    s.prefetch.2 = { s with
      free := s.prefetch.2.free, ctl := { s.ctl with berrLatch := s.ctl.berrLatch || s.fetchFails (s.ia + 4) } } :=
  s.progRead16_spec (s.ia + 4) h

/-- Inside the window a prefetch that fails is a double bus fault. -/
theorem State.prefetch_window (s : State) (hw : s.ctl.berrWindow = true) (hf : s.fetchFails (s.ia + 4) = true) :
    s.prefetch.2 = s.doubleBusFault := by
  rw [State.prefetch, State.progRead16_fails s _ hf, State.signalBusError, hw, if_pos rfl]

/-- The word of the prefetch, where memory or a bus error answers. -/
theorem State.prefetch_word (s : State) (h : (s.fetchable (s.ia + 4) || s.fetchFails (s.ia + 4)) = true) :
    s.prefetch.1 = s.fetchedWord (s.ia + 4) := by
  unfold State.fetchedWord State.prefetch
  cases hf : s.fetchFails (s.ia + 4) with
  | true => rw [State.progRead16_fails s _ hf, if_pos rfl]
  | false => rw [hf, Bool.or_false] at h; rw [State.progRead16_memory s _ h]; rfl

/-- After a prefetch that is no double bus fault the exception is processed, from the state it leaves. -/
theorem State.afterPrefetch_of_kept (s : State) (f : State → State) (ha : s.alive = true)
    (h : s.executing = true ∨ s.fetchFails (s.ia + 4) = false) : s.afterPrefetch f = f s.prefetch.2 := by
  have : s.prefetch.2.alive = true := by rw [s.prefetch_spec h]; exact ha
  rw [State.afterPrefetch, State.whileAlive, if_pos this]

/-- After one that is, nothing is processed. -/
theorem State.afterPrefetch_window (s : State) (f : State → State) (hw : s.ctl.berrWindow = true)
    (hf : s.fetchFails (s.ia + 4) = true) : s.afterPrefetch f = s.doubleBusFault := by
  rw [State.afterPrefetch, s.prefetch_window hw hf, State.whileAlive, s.doubleBusFault_spec.2.2.2.2.2.2.2]; rfl

end Sys2Proof.Machine
end

