-- ==== Sys2Proof/Laws/FunctionCode.lean ====
section
/-! SUPPORT. The function codes: FC2 is always 1, %100 is never generated, a code names its space, and what the platform
decodes by a code is the memory that the accesses of that space use (20_memory.md R91, R92). -/

namespace Sys2Proof.Machine

/-- FC2 is 1: the processor is always in supervisor mode (60_exceptions.md R790). -/
theorem BusCycle.functionCode_supervisor (k : BusCycle) : k.functionCode.getLsbD 2 = true := by
  unfold BusCycle.functionCode; cases k.space <;> rfl

/-- The reserved code is never generated. -/
theorem BusCycle.functionCode_ne_reserved (k : BusCycle) : k.functionCode ≠ 0b100 := by
  unfold BusCycle.functionCode; cases k.space <;> decide

/-- Different spaces have different codes. -/
theorem Space.functionCode_inj (x y : Space) : x.functionCode = y.functionCode ↔ x = y := by
  cases x <;> cases y <;> decide

/-- What is decoded by the code of program space is the memory that fetches read. -/
theorem State.decodedMemory_program (s : State) : s.decodedMemory Space.program.functionCode = s.progMem := by
  cases h : s.plat.splitSpaces <;> simp [State.decodedMemory, State.progMem, h]

/-- What is decoded by the code of data space is the memory that operands are read from and written to. -/
theorem State.decodedMemory_data (s : State) : s.decodedMemory Space.data.functionCode = s.mem := by
  simp [State.decodedMemory, Space.functionCode]

end Sys2Proof.Machine
end

