-- ==== Sys2Proof/Laws/PerInstr.lean ====
section
/-! SUPPORT. A fact about every instruction as syntax, one lemma per constructor. -/

namespace Sys2Proof.Laws

/-- A well-formed instruction has one, two or three words (30_encoding.md R141). -/
def Length.Statement (i : Instr) : Prop :=
  i.wellFormed = true → (encode i).length = 1 ∨ (encode i).length = 2 ∨ (encode i).length = 3

/-- One word. -/
theorem Length.one {i : Instr} (h : (encode i).length = 1) : Length.Statement i := fun _ => .inl h

/-- Two words. -/
theorem Length.two {i : Instr} (h : (encode i).length = 2) : Length.Statement i := fun _ => .inr (.inl h)

/-- Three words. -/
theorem Length.three {i : Instr} (h : (encode i).length = 3) : Length.Statement i := fun _ => .inr (.inr h)

/-- A form that the mnemonic does not have. -/
theorem Length.illFormed {i : Instr} (h : i.wellFormed = false) : Length.Statement i :=
  fun w => absurd w (by rw [h]; decide)

theorem Length.ldaa (m : Src8) : Length.Statement (.ldaa m) := by
  rcases m with (_ | _ | _ | _) | _
  all_goals first | exact one rfl | exact two rfl
theorem Length.ldab (m : Src8) : Length.Statement (.ldab m) := by
  rcases m with (_ | _ | _ | _) | _
  all_goals first | exact one rfl | exact two rfl
theorem Length.ldd (m : Src16) : Length.Statement (.ldd m) := by
  rcases m with (_ | _ | _ | _) | _ | _
  all_goals first | exact one rfl | exact two rfl
theorem Length.lde (m : Src16) : Length.Statement (.lde m) := by
  rcases m with (_ | _ | _ | _) | _ | _
  all_goals first | exact one rfl | exact two rfl | exact three rfl | exact illFormed rfl
theorem Length.lded (hhll : BitVec 16) : Length.Statement (.lded hhll) := two rfl
theorem Length.movb (f : MovForm) : Length.Statement (.movb f) := by
  rcases f with _ | _ | _
  all_goals first | exact one rfl | exact two rfl | exact three rfl
theorem Length.movw (f : MovForm) : Length.Statement (.movw f) := by
  rcases f with _ | _ | _
  all_goals first | exact one rfl | exact two rfl | exact three rfl
theorem Length.staa (m : Mem) : Length.Statement (.staa m) := by
  rcases m with _ | _ | _ | _
  all_goals first | exact one rfl | exact two rfl
theorem Length.stab (m : Mem) : Length.Statement (.stab m) := by
  rcases m with _ | _ | _ | _
  all_goals first | exact one rfl | exact two rfl
theorem Length.std (m : Mem) : Length.Statement (.std m) := by
  rcases m with _ | _ | _ | _
  all_goals first | exact one rfl | exact two rfl
theorem Length.ste (m : Mem) : Length.Statement (.ste m) := by
  rcases m with _ | _ | _ | _
  all_goals first | exact one rfl | exact two rfl | exact three rfl | exact illFormed rfl
theorem Length.sted (hhll : BitVec 16) : Length.Statement (.sted hhll) := two rfl
theorem Length.adca (m : Src8) : Length.Statement (.adca m) := by
  rcases m with (_ | _ | _ | _) | _
  all_goals first | exact one rfl | exact two rfl
theorem Length.adcb (m : Src8) : Length.Statement (.adcb m) := by
  rcases m with (_ | _ | _ | _) | _
  all_goals first | exact one rfl | exact two rfl
theorem Length.adcd (m : Src16) : Length.Statement (.adcd m) := by
  rcases m with (_ | _ | _ | _) | _ | _
  all_goals first | exact one rfl | exact two rfl
theorem Length.adce (m : Src16) : Length.Statement (.adce m) := by
  rcases m with (_ | _ | _ | _) | _ | _
  all_goals first | exact one rfl | exact two rfl | exact three rfl | exact illFormed rfl
theorem Length.adda (m : Src8) : Length.Statement (.adda m) := by
  rcases m with (_ | _ | _ | _) | _
  all_goals first | exact one rfl | exact two rfl
theorem Length.addb (m : Src8) : Length.Statement (.addb m) := by
  rcases m with (_ | _ | _ | _) | _
  all_goals first | exact one rfl | exact two rfl
theorem Length.addd (m : Src16) : Length.Statement (.addd m) := by
  rcases m with (_ | _ | _ | _) | _ | _
  all_goals first | exact one rfl | exact two rfl
theorem Length.adde (m : Src16) : Length.Statement (.adde m) := by
  rcases m with (_ | _ | _ | _) | _ | _
  all_goals first | exact one rfl | exact two rfl | exact three rfl | exact illFormed rfl
theorem Length.sbca (m : Src8) : Length.Statement (.sbca m) := by
  rcases m with (_ | _ | _ | _) | _
  all_goals first | exact one rfl | exact two rfl
theorem Length.sbcb (m : Src8) : Length.Statement (.sbcb m) := by
  rcases m with (_ | _ | _ | _) | _
  all_goals first | exact one rfl | exact two rfl
theorem Length.sbcd (m : Src16) : Length.Statement (.sbcd m) := by
  rcases m with (_ | _ | _ | _) | _ | _
  all_goals first | exact one rfl | exact two rfl
theorem Length.sbce (m : Src16) : Length.Statement (.sbce m) := by
  rcases m with (_ | _ | _ | _) | _ | _
  all_goals first | exact one rfl | exact two rfl | exact three rfl | exact illFormed rfl
theorem Length.suba (m : Src8) : Length.Statement (.suba m) := by
  rcases m with (_ | _ | _ | _) | _
  all_goals first | exact one rfl | exact two rfl
theorem Length.subb (m : Src8) : Length.Statement (.subb m) := by
  rcases m with (_ | _ | _ | _) | _
  all_goals first | exact one rfl | exact two rfl
theorem Length.subd (m : Src16) : Length.Statement (.subd m) := by
  rcases m with (_ | _ | _ | _) | _ | _
  all_goals first | exact one rfl | exact two rfl
theorem Length.sube (m : Src16) : Length.Statement (.sube m) := by
  rcases m with (_ | _ | _ | _) | _ | _
  all_goals first | exact one rfl | exact two rfl | exact three rfl | exact illFormed rfl
theorem Length.cmpa (m : Src8) : Length.Statement (.cmpa m) := by
  rcases m with (_ | _ | _ | _) | _
  all_goals first | exact one rfl | exact two rfl
theorem Length.cmpb (m : Src8) : Length.Statement (.cmpb m) := by
  rcases m with (_ | _ | _ | _) | _
  all_goals first | exact one rfl | exact two rfl
theorem Length.cpd (m : Src16) : Length.Statement (.cpd m) := by
  rcases m with (_ | _ | _ | _) | _ | _
  all_goals first | exact one rfl | exact two rfl
theorem Length.cpe (m : Src16) : Length.Statement (.cpe m) := by
  rcases m with (_ | _ | _ | _) | _ | _
  all_goals first | exact one rfl | exact two rfl | exact three rfl | exact illFormed rfl
theorem Length.tst (m : Mem) : Length.Statement (.tst m) := by
  rcases m with _ | _ | _ | _
  all_goals first | exact one rfl | exact two rfl
theorem Length.tstw (m : Mem) : Length.Statement (.tstw m) := by
  rcases m with _ | _ | _ | _
  all_goals first | exact one rfl | exact two rfl | exact three rfl | exact illFormed rfl
theorem Length.dec (m : Mem) : Length.Statement (.dec m) := by
  rcases m with _ | _ | _ | _
  all_goals first | exact one rfl | exact two rfl
theorem Length.decw (m : Mem) : Length.Statement (.decw m) := by
  rcases m with _ | _ | _ | _
  all_goals first | exact one rfl | exact two rfl | exact three rfl | exact illFormed rfl
theorem Length.inc (m : Mem) : Length.Statement (.inc m) := by
  rcases m with _ | _ | _ | _
  all_goals first | exact one rfl | exact two rfl
theorem Length.incw (m : Mem) : Length.Statement (.incw m) := by
  rcases m with _ | _ | _ | _
  all_goals first | exact one rfl | exact two rfl | exact three rfl | exact illFormed rfl
theorem Length.clr (m : Mem) : Length.Statement (.clr m) := by
  rcases m with _ | _ | _ | _
  all_goals first | exact one rfl | exact two rfl
theorem Length.clrw (m : Mem) : Length.Statement (.clrw m) := by
  rcases m with _ | _ | _ | _
  all_goals first | exact one rfl | exact two rfl | exact three rfl | exact illFormed rfl
theorem Length.com (m : Mem) : Length.Statement (.com m) := by
  rcases m with _ | _ | _ | _
  all_goals first | exact one rfl | exact two rfl
theorem Length.comw (m : Mem) : Length.Statement (.comw m) := by
  rcases m with _ | _ | _ | _
  all_goals first | exact one rfl | exact two rfl | exact three rfl | exact illFormed rfl
theorem Length.neg (m : Mem) : Length.Statement (.neg m) := by
  rcases m with _ | _ | _ | _
  all_goals first | exact one rfl | exact two rfl
theorem Length.negw (m : Mem) : Length.Statement (.negw m) := by
  rcases m with _ | _ | _ | _
  all_goals first | exact one rfl | exact two rfl | exact three rfl | exact illFormed rfl
theorem Length.anda (m : Src8) : Length.Statement (.anda m) := by
  rcases m with (_ | _ | _ | _) | _
  all_goals first | exact one rfl | exact two rfl
theorem Length.andb (m : Src8) : Length.Statement (.andb m) := by
  rcases m with (_ | _ | _ | _) | _
  all_goals first | exact one rfl | exact two rfl
theorem Length.andd (m : Src16) : Length.Statement (.andd m) := by
  rcases m with (_ | _ | _ | _) | _ | _
  all_goals first | exact one rfl | exact two rfl
theorem Length.ande (m : Src16) : Length.Statement (.ande m) := by
  rcases m with (_ | _ | _ | _) | _ | _
  all_goals first | exact one rfl | exact two rfl | exact three rfl | exact illFormed rfl
theorem Length.eora (m : Src8) : Length.Statement (.eora m) := by
  rcases m with (_ | _ | _ | _) | _
  all_goals first | exact one rfl | exact two rfl
theorem Length.eorb (m : Src8) : Length.Statement (.eorb m) := by
  rcases m with (_ | _ | _ | _) | _
  all_goals first | exact one rfl | exact two rfl
theorem Length.eord (m : Src16) : Length.Statement (.eord m) := by
  rcases m with (_ | _ | _ | _) | _ | _
  all_goals first | exact one rfl | exact two rfl
theorem Length.eore (m : Src16) : Length.Statement (.eore m) := by
  rcases m with (_ | _ | _ | _) | _ | _
  all_goals first | exact one rfl | exact two rfl | exact three rfl | exact illFormed rfl
theorem Length.oraa (m : Src8) : Length.Statement (.oraa m) := by
  rcases m with (_ | _ | _ | _) | _
  all_goals first | exact one rfl | exact two rfl
theorem Length.orab (m : Src8) : Length.Statement (.orab m) := by
  rcases m with (_ | _ | _ | _) | _
  all_goals first | exact one rfl | exact two rfl
theorem Length.ord (m : Src16) : Length.Statement (.ord m) := by
  rcases m with (_ | _ | _ | _) | _ | _
  all_goals first | exact one rfl | exact two rfl
theorem Length.ore (m : Src16) : Length.Statement (.ore m) := by
  rcases m with (_ | _ | _ | _) | _ | _
  all_goals first | exact one rfl | exact two rfl | exact three rfl | exact illFormed rfl
theorem Length.bita (m : Src8) : Length.Statement (.bita m) := by
  rcases m with (_ | _ | _ | _) | _
  all_goals first | exact one rfl | exact two rfl
theorem Length.bitb (m : Src8) : Length.Statement (.bitb m) := by
  rcases m with (_ | _ | _ | _) | _
  all_goals first | exact one rfl | exact two rfl
theorem Length.bclr (m : Mem) (mm : BitVec 8) : Length.Statement (.bclr m mm) := by
  rcases m with _ | _ | _ | _
  all_goals first | exact one rfl | exact two rfl | exact three rfl | exact illFormed rfl
theorem Length.bclrw (m : Mem) (mmmm : BitVec 16) : Length.Statement (.bclrw m mmmm) := by
  rcases m with _ | _ | _ | _
  all_goals first | exact one rfl | exact two rfl | exact three rfl
theorem Length.bset (m : Mem) (mm : BitVec 8) : Length.Statement (.bset m mm) := by
  rcases m with _ | _ | _ | _
  all_goals first | exact one rfl | exact two rfl | exact three rfl | exact illFormed rfl
theorem Length.bsetw (m : Mem) (mmmm : BitVec 16) : Length.Statement (.bsetw m mmmm) := by
  rcases m with _ | _ | _ | _
  all_goals first | exact one rfl | exact two rfl | exact three rfl
theorem Length.lsr (m : Mem) : Length.Statement (.lsr m) := by
  rcases m with _ | _ | _ | _
  all_goals first | exact one rfl | exact two rfl
theorem Length.lsrw (m : Mem) : Length.Statement (.lsrw m) := by
  rcases m with _ | _ | _ | _
  all_goals first | exact one rfl | exact two rfl | exact three rfl | exact illFormed rfl
theorem Length.asl (m : Mem) : Length.Statement (.asl m) := by
  rcases m with _ | _ | _ | _
  all_goals first | exact one rfl | exact two rfl
theorem Length.aslw (m : Mem) : Length.Statement (.aslw m) := by
  rcases m with _ | _ | _ | _
  all_goals first | exact one rfl | exact two rfl | exact three rfl | exact illFormed rfl
theorem Length.asr (m : Mem) : Length.Statement (.asr m) := by
  rcases m with _ | _ | _ | _
  all_goals first | exact one rfl | exact two rfl
theorem Length.asrw (m : Mem) : Length.Statement (.asrw m) := by
  rcases m with _ | _ | _ | _
  all_goals first | exact one rfl | exact two rfl | exact three rfl | exact illFormed rfl
theorem Length.rol (m : Mem) : Length.Statement (.rol m) := by
  rcases m with _ | _ | _ | _
  all_goals first | exact one rfl | exact two rfl
theorem Length.rolw (m : Mem) : Length.Statement (.rolw m) := by
  rcases m with _ | _ | _ | _
  all_goals first | exact one rfl | exact two rfl | exact three rfl | exact illFormed rfl
theorem Length.ror (m : Mem) : Length.Statement (.ror m) := by
  rcases m with _ | _ | _ | _
  all_goals first | exact one rfl | exact two rfl
theorem Length.rorw (m : Mem) : Length.Statement (.rorw m) := by
  rcases m with _ | _ | _ | _
  all_goals first | exact one rfl | exact two rfl | exact three rfl | exact illFormed rfl
theorem Length.bra (rr : BitVec 8) : Length.Statement (.bra rr) := one rfl
theorem Length.brn (rr : BitVec 8) : Length.Statement (.brn rr) := one rfl
theorem Length.bcc (rr : BitVec 8) : Length.Statement (.bcc rr) := one rfl
theorem Length.bcs (rr : BitVec 8) : Length.Statement (.bcs rr) := one rfl
theorem Length.beq (rr : BitVec 8) : Length.Statement (.beq rr) := one rfl
theorem Length.bge (rr : BitVec 8) : Length.Statement (.bge rr) := one rfl
theorem Length.bgt (rr : BitVec 8) : Length.Statement (.bgt rr) := one rfl
theorem Length.bhi (rr : BitVec 8) : Length.Statement (.bhi rr) := one rfl
theorem Length.ble (rr : BitVec 8) : Length.Statement (.ble rr) := one rfl
theorem Length.bls (rr : BitVec 8) : Length.Statement (.bls rr) := one rfl
theorem Length.blt (rr : BitVec 8) : Length.Statement (.blt rr) := one rfl
theorem Length.bmi (rr : BitVec 8) : Length.Statement (.bmi rr) := one rfl
theorem Length.bne (rr : BitVec 8) : Length.Statement (.bne rr) := one rfl
theorem Length.bpl (rr : BitVec 8) : Length.Statement (.bpl rr) := one rfl
theorem Length.bvc (rr : BitVec 8) : Length.Statement (.bvc rr) := one rfl
theorem Length.bvs (rr : BitVec 8) : Length.Statement (.bvs rr) := one rfl
theorem Length.lbra (rrrr : BitVec 16) : Length.Statement (.lbra rrrr) := two rfl
theorem Length.lbrn (rrrr : BitVec 16) : Length.Statement (.lbrn rrrr) := two rfl
theorem Length.lbcc (rrrr : BitVec 16) : Length.Statement (.lbcc rrrr) := two rfl
theorem Length.lbcs (rrrr : BitVec 16) : Length.Statement (.lbcs rrrr) := two rfl
theorem Length.lbeq (rrrr : BitVec 16) : Length.Statement (.lbeq rrrr) := two rfl
theorem Length.lbge (rrrr : BitVec 16) : Length.Statement (.lbge rrrr) := two rfl
theorem Length.lbgt (rrrr : BitVec 16) : Length.Statement (.lbgt rrrr) := two rfl
theorem Length.lbhi (rrrr : BitVec 16) : Length.Statement (.lbhi rrrr) := two rfl
theorem Length.lble (rrrr : BitVec 16) : Length.Statement (.lble rrrr) := two rfl
theorem Length.lbls (rrrr : BitVec 16) : Length.Statement (.lbls rrrr) := two rfl
theorem Length.lblt (rrrr : BitVec 16) : Length.Statement (.lblt rrrr) := two rfl
theorem Length.lbmi (rrrr : BitVec 16) : Length.Statement (.lbmi rrrr) := two rfl
theorem Length.lbne (rrrr : BitVec 16) : Length.Statement (.lbne rrrr) := two rfl
theorem Length.lbpl (rrrr : BitVec 16) : Length.Statement (.lbpl rrrr) := two rfl
theorem Length.lbvc (rrrr : BitVec 16) : Length.Statement (.lbvc rrrr) := two rfl
theorem Length.lbvs (rrrr : BitVec 16) : Length.Statement (.lbvs rrrr) := two rfl
theorem Length.lbev (rrrr : BitVec 16) : Length.Statement (.lbev rrrr) := two rfl
theorem Length.lbmv (rrrr : BitVec 16) : Length.Statement (.lbmv rrrr) := two rfl
theorem Length.brclr (m : Mem) (mm : BitVec 8) (r : Rel) : Length.Statement (.brclr m mm r) := by
  rcases m with _ | _ | _ | _ <;> rcases r with _ | _
  all_goals first | exact one rfl | exact two rfl | exact three rfl | exact illFormed rfl
theorem Length.brset (m : Mem) (mm : BitVec 8) (r : Rel) : Length.Statement (.brset m mm r) := by
  rcases m with _ | _ | _ | _ <;> rcases r with _ | _
  all_goals first | exact one rfl | exact two rfl | exact three rfl | exact illFormed rfl
theorem Length.jmp (t : JumpTarget) : Length.Statement (.jmp t) := by
  rcases t with _ | _
  all_goals first | exact one rfl | exact two rfl
theorem Length.bsr (rr : BitVec 8) : Length.Statement (.bsr rr) := one rfl
theorem Length.jsr (t : JumpTarget) : Length.Statement (.jsr t) := by
  rcases t with _ | _
  all_goals first | exact one rfl | exact two rfl
theorem Length.lbsr (rrrr : BitVec 16) : Length.Statement (.lbsr rrrr) := two rfl
theorem Length.aix (v : Imm) : Length.Statement (.aix v) := by
  rcases v with _ | _
  all_goals first | exact one rfl | exact two rfl
theorem Length.aiy (v : Imm) : Length.Statement (.aiy v) := by
  rcases v with _ | _
  all_goals first | exact one rfl | exact two rfl
theorem Length.aiz (v : Imm) : Length.Statement (.aiz v) := by
  rcases v with _ | _
  all_goals first | exact one rfl | exact two rfl
theorem Length.cpx (m : Src16) : Length.Statement (.cpx m) := by
  rcases m with (_ | _ | _ | _) | _ | _
  all_goals first | exact one rfl | exact two rfl | exact three rfl | exact illFormed rfl
theorem Length.ldx (m : Src16) : Length.Statement (.ldx m) := by
  rcases m with (_ | _ | _ | _) | _ | _
  all_goals first | exact one rfl | exact two rfl | exact three rfl | exact illFormed rfl
theorem Length.stx (m : Mem) : Length.Statement (.stx m) := by
  rcases m with _ | _ | _ | _
  all_goals first | exact one rfl | exact two rfl
theorem Length.cpy (m : Src16) : Length.Statement (.cpy m) := by
  rcases m with (_ | _ | _ | _) | _ | _
  all_goals first | exact one rfl | exact two rfl | exact three rfl | exact illFormed rfl
theorem Length.ldy (m : Src16) : Length.Statement (.ldy m) := by
  rcases m with (_ | _ | _ | _) | _ | _
  all_goals first | exact one rfl | exact two rfl | exact three rfl | exact illFormed rfl
theorem Length.sty (m : Mem) : Length.Statement (.sty m) := by
  rcases m with _ | _ | _ | _
  all_goals first | exact one rfl | exact two rfl
theorem Length.cpz (m : Src16) : Length.Statement (.cpz m) := by
  rcases m with (_ | _ | _ | _) | _ | _
  all_goals first | exact one rfl | exact two rfl | exact three rfl | exact illFormed rfl
theorem Length.ldz (m : Src16) : Length.Statement (.ldz m) := by
  rcases m with (_ | _ | _ | _) | _ | _
  all_goals first | exact one rfl | exact two rfl | exact three rfl | exact illFormed rfl
theorem Length.stz (m : Mem) : Length.Statement (.stz m) := by
  rcases m with _ | _ | _ | _
  all_goals first | exact one rfl | exact two rfl
theorem Length.ais (v : Imm) : Length.Statement (.ais v) := by
  rcases v with _ | _
  all_goals first | exact one rfl | exact two rfl
theorem Length.cps (m : Src16) : Length.Statement (.cps m) := by
  rcases m with (_ | _ | _ | _) | _ | _
  all_goals first | exact one rfl | exact two rfl | exact three rfl | exact illFormed rfl
theorem Length.lds (m : Src16) : Length.Statement (.lds m) := by
  rcases m with (_ | _ | _ | _) | _ | _
  all_goals first | exact one rfl | exact two rfl | exact three rfl | exact illFormed rfl
theorem Length.sts (m : Mem) : Length.Statement (.sts m) := by
  rcases m with _ | _ | _ | _
  all_goals first | exact one rfl | exact two rfl
theorem Length.pshm (mask : BitVec 8) : Length.Statement (.pshm mask) := one rfl
theorem Length.pulm (mask : BitVec 8) : Length.Statement (.pulm mask) := one rfl
theorem Length.andp (jjkk : BitVec 16) : Length.Statement (.andp jjkk) := two rfl
theorem Length.orp (jjkk : BitVec 16) : Length.Statement (.orp jjkk) := two rfl
theorem Length.mac (xo : BitVec 4) (yo : BitVec 4) : Length.Statement (.mac xo yo) := one rfl
theorem Length.rmac (xo : BitVec 4) (yo : BitVec 4) : Length.Statement (.rmac xo yo) := one rfl
theorem Length.tab : Length.Statement .tab := one rfl
theorem Length.tba : Length.Statement .tba := one rfl
theorem Length.tde : Length.Statement .tde := one rfl
theorem Length.ted : Length.Statement .ted := one rfl
theorem Length.xgab : Length.Statement .xgab := one rfl
theorem Length.xgde : Length.Statement .xgde := one rfl
theorem Length.aba : Length.Statement .aba := one rfl
theorem Length.ade : Length.Statement .ade := one rfl
theorem Length.sba : Length.Statement .sba := one rfl
theorem Length.sde : Length.Statement .sde := one rfl
theorem Length.daa : Length.Statement .daa := one rfl
theorem Length.sxt : Length.Statement .sxt := one rfl
theorem Length.cba : Length.Statement .cba := one rfl
theorem Length.tsta : Length.Statement .tsta := one rfl
theorem Length.tstb : Length.Statement .tstb := one rfl
theorem Length.tstd : Length.Statement .tstd := one rfl
theorem Length.tste : Length.Statement .tste := one rfl
theorem Length.deca : Length.Statement .deca := one rfl
theorem Length.decb : Length.Statement .decb := one rfl
theorem Length.inca : Length.Statement .inca := one rfl
theorem Length.incb : Length.Statement .incb := one rfl
theorem Length.clra : Length.Statement .clra := one rfl
theorem Length.clrb : Length.Statement .clrb := one rfl
theorem Length.clrd : Length.Statement .clrd := one rfl
theorem Length.clre : Length.Statement .clre := one rfl
theorem Length.coma : Length.Statement .coma := one rfl
theorem Length.comb : Length.Statement .comb := one rfl
theorem Length.comd : Length.Statement .comd := one rfl
theorem Length.come : Length.Statement .come := one rfl
theorem Length.nega : Length.Statement .nega := one rfl
theorem Length.negb : Length.Statement .negb := one rfl
theorem Length.negd : Length.Statement .negd := one rfl
theorem Length.nege : Length.Statement .nege := one rfl
theorem Length.ediv : Length.Statement .ediv := one rfl
theorem Length.edivs : Length.Statement .edivs := one rfl
theorem Length.emul : Length.Statement .emul := one rfl
theorem Length.emuls : Length.Statement .emuls := one rfl
theorem Length.fdiv : Length.Statement .fdiv := one rfl
theorem Length.fmuls : Length.Statement .fmuls := one rfl
theorem Length.idiv : Length.Statement .idiv := one rfl
theorem Length.mul : Length.Statement .mul := one rfl
theorem Length.lsra : Length.Statement .lsra := one rfl
theorem Length.lsrb : Length.Statement .lsrb := one rfl
theorem Length.lsrd : Length.Statement .lsrd := one rfl
theorem Length.lsre : Length.Statement .lsre := one rfl
theorem Length.asla : Length.Statement .asla := one rfl
theorem Length.aslb : Length.Statement .aslb := one rfl
theorem Length.asld : Length.Statement .asld := one rfl
theorem Length.asle : Length.Statement .asle := one rfl
theorem Length.asra : Length.Statement .asra := one rfl
theorem Length.asrb : Length.Statement .asrb := one rfl
theorem Length.asrd : Length.Statement .asrd := one rfl
theorem Length.asre : Length.Statement .asre := one rfl
theorem Length.rola : Length.Statement .rola := one rfl
theorem Length.rolb : Length.Statement .rolb := one rfl
theorem Length.rold : Length.Statement .rold := one rfl
theorem Length.role : Length.Statement .role := one rfl
theorem Length.rora : Length.Statement .rora := one rfl
theorem Length.rorb : Length.Statement .rorb := one rfl
theorem Length.rord : Length.Statement .rord := one rfl
theorem Length.rore : Length.Statement .rore := one rfl
theorem Length.rts : Length.Statement .rts := one rfl
theorem Length.rti : Length.Statement .rti := one rfl
theorem Length.swi : Length.Statement .swi := one rfl
theorem Length.abx : Length.Statement .abx := one rfl
theorem Length.aby : Length.Statement .aby := one rfl
theorem Length.abz : Length.Statement .abz := one rfl
theorem Length.adx : Length.Statement .adx := one rfl
theorem Length.ady : Length.Statement .ady := one rfl
theorem Length.adz : Length.Statement .adz := one rfl
theorem Length.aex : Length.Statement .aex := one rfl
theorem Length.aey : Length.Statement .aey := one rfl
theorem Length.aez : Length.Statement .aez := one rfl
theorem Length.tsx : Length.Statement .tsx := one rfl
theorem Length.tsy : Length.Statement .tsy := one rfl
theorem Length.tsz : Length.Statement .tsz := one rfl
theorem Length.txs : Length.Statement .txs := one rfl
theorem Length.txy : Length.Statement .txy := one rfl
theorem Length.txz : Length.Statement .txz := one rfl
theorem Length.tys : Length.Statement .tys := one rfl
theorem Length.tyx : Length.Statement .tyx := one rfl
theorem Length.tyz : Length.Statement .tyz := one rfl
theorem Length.tzs : Length.Statement .tzs := one rfl
theorem Length.tzx : Length.Statement .tzx := one rfl
theorem Length.tzy : Length.Statement .tzy := one rfl
theorem Length.xgdx : Length.Statement .xgdx := one rfl
theorem Length.xgdy : Length.Statement .xgdy := one rfl
theorem Length.xgdz : Length.Statement .xgdz := one rfl
theorem Length.xgex : Length.Statement .xgex := one rfl
theorem Length.xgey : Length.Statement .xgey := one rfl
theorem Length.xgez : Length.Statement .xgez := one rfl
theorem Length.tbek : Length.Statement .tbek := one rfl
theorem Length.tbsk : Length.Statement .tbsk := one rfl
theorem Length.tbxk : Length.Statement .tbxk := one rfl
theorem Length.tbyk : Length.Statement .tbyk := one rfl
theorem Length.tbzk : Length.Statement .tbzk := one rfl
theorem Length.tekb : Length.Statement .tekb := one rfl
theorem Length.tskb : Length.Statement .tskb := one rfl
theorem Length.txkb : Length.Statement .txkb := one rfl
theorem Length.tykb : Length.Statement .tykb := one rfl
theorem Length.tzkb : Length.Statement .tzkb := one rfl
theorem Length.psha : Length.Statement .psha := one rfl
theorem Length.pshb : Length.Statement .pshb := one rfl
theorem Length.pula : Length.Statement .pula := one rfl
theorem Length.pulb : Length.Statement .pulb := one rfl
theorem Length.tap : Length.Statement .tap := one rfl
theorem Length.tdp : Length.Statement .tdp := one rfl
theorem Length.tpa : Length.Statement .tpa := one rfl
theorem Length.tpd : Length.Statement .tpd := one rfl
theorem Length.lpstop : Length.Statement .lpstop := one rfl
theorem Length.wai : Length.Statement .wai := one rfl
theorem Length.bgnd : Length.Statement .bgnd := one rfl
theorem Length.nop : Length.Statement .nop := one rfl
theorem Length.ace : Length.Statement .ace := one rfl
theorem Length.aced : Length.Statement .aced := one rfl
theorem Length.aslm : Length.Statement .aslm := one rfl
theorem Length.asrm : Length.Statement .asrm := one rfl
theorem Length.clrm : Length.Statement .clrm := one rfl
theorem Length.ldhi : Length.Statement .ldhi := one rfl
theorem Length.pshmac : Length.Statement .pshmac := one rfl
theorem Length.pulmac : Length.Statement .pulmac := one rfl
theorem Length.tmer : Length.Statement .tmer := one rfl
theorem Length.tmet : Length.Statement .tmet := one rfl
theorem Length.tdmsk : Length.Statement .tdmsk := one rfl
theorem Length.tedm : Length.Statement .tedm := one rfl
theorem Length.tem : Length.Statement .tem := one rfl
theorem Length.tmxed : Length.Statement .tmxed := one rfl

end Sys2Proof.Laws
end

