-- ==== Sys2Proof/Laws/Pipeline.lean ====
section
/-! SUPPORT. Following the pipeline by its state signals: the pins read back, and what the stages hold after the signals
of a refill, of an instruction in sequence and of a change of flow. -/

namespace Sys2Proof.Machine

@[simp] theorem oneOfPins_pinsOfOne (k : PhaseOne) : oneOfPins (pinsOfOne k) = k := by cases k <;> rfl

@[simp] theorem twoOfPins_pinsOfTwo (k : PhaseTwo) : twoOfPins (pinsOfTwo k) = k := by cases k <;> rfl

@[simp] theorem pinsOfOne_oneOfPins (p : BitVec 2) : pinsOfOne (oneOfPins p) = p := by revert p; decide

@[simp] theorem pinsOfTwo_twoOfPins (p : BitVec 2) : pinsOfTwo (twoOfPins p) = p := by revert p; decide

@[simp] theorem Pipeline.observeAll_nil (p : Pipeline) : p.observeAll [] = p := rfl

@[simp] theorem Pipeline.observeAll_cons (p : Pipeline) (k : PipeCycle) (ks : List PipeCycle) :
    p.observeAll (k :: ks) = (p.observe k).observeAll ks := rfl

/-- A fill moves stage A to stage B, and a started word of stage B to stage C. -/
theorem Pipeline.observe_fill (p : Pipeline) (w : Word) :
    p.observe (fillCycle w) =
      { a := w, b := p.a, c := if p.started then p.b else p.c, started := false, exception := p.exception } := rfl

/-- START with FETCH and ADVANCE: stage B goes to stage C, stage A to stage B, the bus to stage A. -/
theorem Pipeline.observe_startFetch (p : Pipeline) (w : Word) :
    p.observe (startFetchCycle w) = { a := w, b := p.a, c := p.b, started := false, exception := false } := rfl

/-- START with ADVANCE: stage B goes to stage C, stage A to stage B. -/
theorem Pipeline.observe_start (p : Pipeline) :
    p.observe startCycle = { a := p.a, b := p.a, c := p.b, started := false, exception := false } := rfl

/-- START alone marks the word in stage B, moves nothing and ends an exception processing sequence. -/
theorem Pipeline.observe_begin (p : Pipeline) :
    p.observe beginCycle = { p with started := true, exception := false } := rfl

/-- EXCEPTION alone marks the cycles and moves nothing. -/
theorem Pipeline.observe_exception (p : Pipeline) : p.observe exceptionCycle = { p with exception := true } := rfl

/-- After a refill, stages B and A hold the first two words at the instruction address. -/
theorem Pipeline.observeAll_refill (p : Pipeline) (t : State) (h : t.alive = true) :
    (p.observeAll t.refillCycles).b = t.fetch.1.1 ∧ (p.observeAll t.refillCycles).a = t.fetch.1.2.1 ∧
      (p.observeAll t.refillCycles).exception = p.exception := by
  simp [State.refillCycles, h, Pipeline.observe_fill]

/-- A suspended RMAC has shown its START: the mark is there when EXCEPTION comes, and no stage has moved. -/
theorem Pipeline.observeAll_suspended (p : Pipeline) :
    p.observeAll [beginCycle, exceptionCycle] = { p with started := true, exception := true } := rfl

/-- After an instruction in sequence it stands in stage C, and stages B and A hold the two words that follow it. -/
theorem Pipeline.observeAll_sequential (p : Pipeline) (begun : Bool) (len : Nat) (w : Word) (t : State)
    (h : begun = true → p.started = true ∧ p.exception = false) :
    (p.observeAll (sequentialCycles begun len w t)).c = p.b ∧
      (p.observeAll (sequentialCycles begun len w t)).exception = false ∧
      (p.observeAll (sequentialCycles begun len w t)).b =
        (if len ≤ 2 then p.a else if len ≤ 4 then w else t.fetch.1.1) ∧
      (p.observeAll (sequentialCycles begun len w t)).a = (if len ≤ 2 then w else t.fetch.1.2.1) := by
  unfold sequentialCycles
  cases begun with
  | false =>
    simp only [Bool.false_eq_true, if_false]
    split
    · simp [Pipeline.observe_startFetch]
    · split <;> simp [Pipeline.observe_startFetch, Pipeline.observe_fill]
  | true =>
    obtain ⟨h1, h2⟩ := h rfl
    simp only [if_true]
    split
    · simp [Pipeline.observe_fill, h1, h2]
    · split <;> simp [Pipeline.observe_fill, h1, h2]

/-- After a change of flow the instruction stands in stage C, and stages B and A hold the words at the new address. -/
theorem Pipeline.observeAll_changeOfFlow (p : Pipeline) (t : State) (h : t.alive = true) :
    (p.observeAll (startCycle :: t.refillCycles)).c = p.b ∧
      (p.observeAll (startCycle :: t.refillCycles)).b = t.fetch.1.1 ∧
      (p.observeAll (startCycle :: t.refillCycles)).a = t.fetch.1.2.1 ∧
      (p.observeAll (startCycle :: t.refillCycles)).exception = false := by
  simp [State.refillCycles, h, Pipeline.observe_start, Pipeline.observe_fill]

/-- Exception processing leaves stage C alone unless an instruction was started, and refills stages B and A. -/
theorem Pipeline.observeAll_exception (p : Pipeline) (t : State) (w : Word) (h : t.alive = true) :
    (p.observeAll (t.exceptionCycles w)).b = t.fetch.1.1 ∧ (p.observeAll (t.exceptionCycles w)).a = t.fetch.1.2.1 ∧
      (p.observeAll (t.exceptionCycles w)).exception = true := by
  obtain ⟨hb, ha, he⟩ := Pipeline.observeAll_refill
    ((p.observe (prefetchCycle w)).observe exceptionCycle) t h
  exact ⟨hb, ha, he.trans (by rw [Pipeline.observe_exception])⟩

end Sys2Proof.Machine
end

