-- ==== Sys2Proof/Tests/Slice0.lean ====
section
/-! SUPPORT. Tests: ill-formed terms, words written out from the spec's encodings, the spec's test vectors
(95_test_vectors.md), single steps, and a witness for the hypotheses of every obligation. -/

namespace Sys2Proof.Tests

open Sys2Proof.Machine

set_option maxRecDepth 20000

/-! ### Ill-formed terms, one for each check of WellFormed.lean -/

/-- TST has no E,X form (opcode_table.json). -/
theorem test_wf_indexedOrExt : (Instr.tst (.eoff .x)).wellFormed = false := by decide
/-- INCW has no IND8 form. -/
theorem test_wf_ind16OrExt : (Instr.incw (.ind8 .x 0)).wellFormed = false := by decide
/-- INCW has no E,X form. -/
theorem test_wf_ind16OrExt_eoff : (Instr.incw (.eoff .y)).wellFormed = false := by decide
/-- LDD has no IMM8 form. -/
theorem test_wf_formsD : (Instr.ldd (.imm8 1)).wellFormed = false := by decide
/-- LDE has no IMM8 form. -/
theorem test_wf_formsE : (Instr.lde (.imm8 1)).wellFormed = false := by decide
/-- LDE has no IND8 form. -/
theorem test_wf_formsE_ind8 : (Instr.lde (.mem (.ind8 .z 1))).wellFormed = false := by decide
/-- ADDE has no IND8 form, though it has IMM8. -/
theorem test_wf_formsEOrImm8 :
    (Instr.adde (.mem (.ind8 .x 1))).wellFormed = false ∧ (Instr.adde (.imm8 1)).wellFormed = true := by decide
/-- LDX has no E,X form. -/
theorem test_wf_formsIndex : (Instr.ldx (.mem (.eoff .x))).wellFormed = false := by decide
/-- LDX has no IMM8 form. -/
theorem test_wf_formsIndex_imm8 : (Instr.ldx (.imm8 1)).wellFormed = false := by decide
/-- BRCLR with IND8 has an 8-bit offset. -/
theorem test_wf_bitBranch_ind8 : (Instr.brclr (.ind8 .x 0) 1 (.r16 0)).wellFormed = false := by decide
/-- BRSET with EXT has a 16-bit offset. -/
theorem test_wf_bitBranch_ext : (Instr.brset (.ext 0) 1 (.r8 0)).wellFormed = false := by decide
/-- BRCLR has no E,X form. -/
theorem test_wf_bitBranch_eoff : (Instr.brclr (.eoff .x) 1 (.r8 0)).wellFormed = false := by decide

/-! ### Decoding: one word of every mnemonic, its fields placed as opcode_table.json places them -/

/-- The words decode to the instruction. -/
def decodesTo (e : List Nat × Instr) : Bool :=
  match decodeWords (e.1.map (BitVec.ofNat 16)) with
  | .ok i => decide (i = e.2)
  | .error _ => false

/-- Words of 40_data_movement.md, part 1. -/
def decode_data_movement : List (List Nat × Instr) :=
  [([0x45E7], .ldaa (.mem (.ind8 .x 0xE7))),
   ([0x75D6], .ldaa (.imm 0xD6)),
   ([0xD5E7], .ldab (.mem (.ind8 .y 0xE7))),
   ([0x27C5], .ldab (.mem (.eoff .x))),
   ([0xA5E7], .ldd (.mem (.ind8 .z 0xE7))),
   ([0x3765, 0x8A5C], .lde (.mem (.ind16 .z 0x8A5C))),
   ([0x2771, 0x9B3D], .lded 0x9B3D),
   ([0x37FE, 0x9B3D, 0x62F1], .movb (.extToExt 0x9B3D 0x62F1)),
   ([0x30E7, 0x9B3D], .movb (.ixpToExt 0xE7 0x9B3D)),
   ([0x32E7, 0x9B3D], .movb (.extToIxp 0x9B3D 0xE7)),
   ([0x31E7, 0x9B3D], .movw (.ixpToExt 0xE7 0x9B3D)),
   ([0x33E7, 0x9B3D], .movw (.extToIxp 0x9B3D 0xE7)),
   ([0x37FF, 0x9B3D, 0x62F1], .movw (.extToExt 0x9B3D 0x62F1)),
   ([0x274A], .staa (.eoff .x)),
   ([0x275A], .staa (.eoff .y)),
   ([0x27DA], .stab (.eoff .y)),
   ([0x17CA, 0x8A5C], .stab (.ind16 .x 0x8A5C)),
   ([0x37FA, 0x9B3D], .std (.ext 0x9B3D)),
   ([0x37EA, 0x8A5C], .std (.ind16 .z 0x8A5C)),
   ([0x376A, 0x8A5C], .ste (.ind16 .z 0x8A5C)),
   ([0x2773, 0x9B3D], .sted 0x9B3D),
   ([0x3717], .tab),
   ([0x3707], .tba),
   ([0x277B], .tde),
   ([0x27FB], .ted),
   ([0x371A], .xgab),
   ([0x277A], .xgde)]

theorem test_decode_data_movement : decode_data_movement.all decodesTo = true := by decide

/-- Words of 41_arithmetic.md, part 1. -/
def decode_arithmetic_1 : List (List Nat × Instr) :=
  [([0x370B], .aba),
   ([0x2743], .adca (.mem (.eoff .x))),
   ([0x2763], .adca (.mem (.eoff .z))),
   ([0x27D3], .adcb (.mem (.eoff .y))),
   ([0x17C3, 0x8A5C], .adcb (.mem (.ind16 .x 0x8A5C))),
   ([0x37F3, 0x9B3D], .adcd (.mem (.ext 0x9B3D))),
   ([0x37E3, 0x8A5C], .adcd (.mem (.ind16 .z 0x8A5C))),
   ([0x3753, 0x8A5C], .adce (.mem (.ind16 .y 0x8A5C))),
   ([0x51E7], .adda (.mem (.ind8 .y 0xE7))),
   ([0x2741], .adda (.mem (.eoff .x))),
   ([0xE1E7], .addb (.mem (.ind8 .z 0xE7))),
   ([0x91E7], .addd (.mem (.ind8 .y 0xE7))),
   ([0x37C1, 0x8A5C], .addd (.mem (.ind16 .x 0x8A5C))),
   ([0x3741, 0x8A5C], .adde (.mem (.ind16 .x 0x8A5C))),
   ([0x2778], .ade),
   ([0x370A], .sba),
   ([0x1772, 0x9B3D], .sbca (.mem (.ext 0x9B3D))),
   ([0x1752, 0x8A5C], .sbca (.mem (.ind16 .y 0x8A5C))),
   ([0x27C2], .sbcb (.mem (.eoff .x))),
   ([0x27E2], .sbcb (.mem (.eoff .z))),
   ([0x37E2, 0x8A5C], .sbcd (.mem (.ind16 .z 0x8A5C))),
   ([0x2792], .sbcd (.mem (.eoff .y))),
   ([0x3752, 0x8A5C], .sbce (.mem (.ind16 .y 0x8A5C))),
   ([0x2779], .sde),
   ([0x50E7], .suba (.mem (.ind8 .y 0xE7))),
   ([0x2740], .suba (.mem (.eoff .x))),
   ([0xE0E7], .subb (.mem (.ind8 .z 0xE7))),
   ([0x2780], .subd (.mem (.eoff .x))),
   ([0x37C0, 0x8A5C], .subd (.mem (.ind16 .x 0x8A5C))),
   ([0x3750, 0x8A5C], .sube (.mem (.ind16 .y 0x8A5C))),
   ([0x3721], .daa),
   ([0x27F8], .sxt),
   ([0x371B], .cba),
   ([0x2748], .cmpa (.mem (.eoff .x))),
   ([0x2768], .cmpa (.mem (.eoff .z))),
   ([0x27D8], .cmpb (.mem (.eoff .y))),
   ([0x17C8, 0x8A5C], .cmpb (.mem (.ind16 .x 0x8A5C))),
   ([0x37F8, 0x9B3D], .cpd (.mem (.ext 0x9B3D))),
   ([0x37E8, 0x8A5C], .cpd (.mem (.ind16 .z 0x8A5C))),
   ([0x3778, 0x9B3D], .cpe (.mem (.ext 0x9B3D)))]

theorem test_decode_arithmetic_1 : decode_arithmetic_1.all decodesTo = true := by decide

/-- Words of 41_arithmetic.md, part 2. -/
def decode_arithmetic_2 : List (List Nat × Instr) :=
  [([0x1706, 0x8A5C], .tst (.ind16 .x 0x8A5C)),
   ([0x3706], .tsta),
   ([0x3716], .tstb),
   ([0x27F6], .tstd),
   ([0x2776], .tste),
   ([0x2726, 0x8A5C], .tstw (.ind16 .z 0x8A5C)),
   ([0x21E7], .dec (.ind8 .z 0xE7)),
   ([0x3701], .deca),
   ([0x3711], .decb),
   ([0x2721, 0x8A5C], .decw (.ind16 .z 0x8A5C)),
   ([0x1733, 0x9B3D], .inc (.ext 0x9B3D)),
   ([0x3703], .inca),
   ([0x3713], .incb),
   ([0x2723, 0x8A5C], .incw (.ind16 .z 0x8A5C)),
   ([0x1705, 0x8A5C], .clr (.ind16 .x 0x8A5C)),
   ([0x3705], .clra),
   ([0x3715], .clrb),
   ([0x27F5], .clrd),
   ([0x2775], .clre),
   ([0x2705, 0x8A5C], .clrw (.ind16 .x 0x8A5C)),
   ([0x20E7], .com (.ind8 .z 0xE7)),
   ([0x3700], .coma),
   ([0x3710], .comb),
   ([0x27F0], .comd),
   ([0x2770], .come),
   ([0x2720, 0x8A5C], .comw (.ind16 .z 0x8A5C)),
   ([0x12E7], .neg (.ind8 .y 0xE7)),
   ([0x3702], .nega),
   ([0x3712], .negb),
   ([0x27F2], .negd),
   ([0x2772], .nege),
   ([0x2702, 0x8A5C], .negw (.ind16 .x 0x8A5C))]

theorem test_decode_arithmetic_2 : decode_arithmetic_2.all decodesTo = true := by decide

/-- Words of 42_mul_div.md, part 1. -/
def decode_multiply_divide : List (List Nat × Instr) :=
  [([0x3728], .ediv),
   ([0x3729], .edivs),
   ([0x3725], .emul),
   ([0x3726], .emuls),
   ([0x372B], .fdiv),
   ([0x3727], .fmuls),
   ([0x372A], .idiv),
   ([0x3724], .mul)]

theorem test_decode_multiply_divide : decode_multiply_divide.all decodesTo = true := by decide

/-- Words of 43_logic_bit.md, part 1. -/
def decode_logic_bit : List (List Nat × Instr) :=
  [([0x2746], .anda (.mem (.eoff .x))),
   ([0x2766], .anda (.mem (.eoff .z))),
   ([0x27D6], .andb (.mem (.eoff .y))),
   ([0x17C6, 0x8A5C], .andb (.mem (.ind16 .x 0x8A5C))),
   ([0x37F6, 0x9B3D], .andd (.mem (.ext 0x9B3D))),
   ([0x37E6, 0x8A5C], .andd (.mem (.ind16 .z 0x8A5C))),
   ([0x3766, 0x8A5C], .ande (.mem (.ind16 .z 0x8A5C))),
   ([0x54E7], .eora (.mem (.ind8 .y 0xE7))),
   ([0x2744], .eora (.mem (.eoff .x))),
   ([0xE4E7], .eorb (.mem (.ind8 .z 0xE7))),
   ([0x2784], .eord (.mem (.eoff .x))),
   ([0x37C4, 0x8A5C], .eord (.mem (.ind16 .x 0x8A5C))),
   ([0x3754, 0x8A5C], .eore (.mem (.ind16 .y 0x8A5C))),
   ([0x1757, 0x8A5C], .oraa (.mem (.ind16 .y 0x8A5C))),
   ([0x1767, 0x8A5C], .oraa (.mem (.ind16 .z 0x8A5C))),
   ([0x17E7, 0x8A5C], .orab (.mem (.ind16 .z 0x8A5C))),
   ([0xC7E7], .orab (.mem (.ind8 .x 0xE7))),
   ([0x37C7, 0x8A5C], .ord (.mem (.ind16 .x 0x8A5C))),
   ([0x27A7], .ord (.mem (.eoff .z))),
   ([0x3747, 0x8A5C], .ore (.mem (.ind16 .x 0x8A5C))),
   ([0x2759], .bita (.mem (.eoff .y))),
   ([0x1749, 0x8A5C], .bita (.mem (.ind16 .x 0x8A5C))),
   ([0x27E9], .bitb (.mem (.eoff .z))),
   ([0x27D9], .bitb (.mem (.eoff .y))),
   ([0x1718, 0xA3E7], .bclr (.ind8 .y 0xE7) 0xA3),
   ([0x1708, 0xA3E7], .bclr (.ind8 .x 0xE7) 0xA3),
   ([0x18A3, 0x8A5C], .bclr (.ind16 .y 0x8A5C) 0xA3),
   ([0x38A3, 0x9B3D], .bclr (.ext 0x9B3D) 0xA3),
   ([0x2708, 0x8A5C, 0xB47E], .bclrw (.ind16 .x 0x8A5C) 0xB47E),
   ([0x09A3, 0x8A5C], .bset (.ind16 .x 0x8A5C) 0xA3),
   ([0x1709, 0xA3E7], .bset (.ind8 .x 0xE7) 0xA3),
   ([0x19A3, 0x8A5C], .bset (.ind16 .y 0x8A5C) 0xA3),
   ([0x39A3, 0x9B3D], .bset (.ext 0x9B3D) 0xA3),
   ([0x2729, 0x8A5C, 0xB47E], .bsetw (.ind16 .z 0x8A5C) 0xB47E)]

theorem test_decode_logic_bit : decode_logic_bit.all decodesTo = true := by decide

/-- Words of 44_shift_rotate.md, part 1. -/
def decode_shift_rotate : List (List Nat × Instr) :=
  [([0x172F, 0x8A5C], .lsr (.ind16 .z 0x8A5C)),
   ([0x370F], .lsra),
   ([0x371F], .lsrb),
   ([0x27FF], .lsrd),
   ([0x277F], .lsre),
   ([0x270F, 0x8A5C], .lsrw (.ind16 .x 0x8A5C)),
   ([0x1714, 0x8A5C], .asl (.ind16 .y 0x8A5C)),
   ([0x3704], .asla),
   ([0x3714], .aslb),
   ([0x27F4], .asld),
   ([0x2774], .asle),
   ([0x2724, 0x8A5C], .aslw (.ind16 .z 0x8A5C)),
   ([0x170D, 0x8A5C], .asr (.ind16 .x 0x8A5C)),
   ([0x370D], .asra),
   ([0x371D], .asrb),
   ([0x27FD], .asrd),
   ([0x277D], .asre),
   ([0x270D, 0x8A5C], .asrw (.ind16 .x 0x8A5C)),
   ([0x2CE7], .rol (.ind8 .z 0xE7)),
   ([0x370C], .rola),
   ([0x371C], .rolb),
   ([0x27FC], .rold),
   ([0x277C], .role),
   ([0x272C, 0x8A5C], .rolw (.ind16 .z 0x8A5C)),
   ([0x1EE7], .ror (.ind8 .y 0xE7)),
   ([0x370E], .rora),
   ([0x371E], .rorb),
   ([0x27FE], .rord),
   ([0x277E], .rore),
   ([0x270E, 0x8A5C], .rorw (.ind16 .x 0x8A5C))]

theorem test_decode_shift_rotate : decode_shift_rotate.all decodesTo = true := by decide

/-- Words of 45_program_control.md, part 1. -/
def decode_program_control_1 : List (List Nat × Instr) :=
  [([0xB0F2], .bra 0xF2),
   ([0xB1F2], .brn 0xF2),
   ([0xB4F2], .bcc 0xF2),
   ([0xB5F2], .bcs 0xF2),
   ([0xB7F2], .beq 0xF2),
   ([0xBCF2], .bge 0xF2),
   ([0xBEF2], .bgt 0xF2),
   ([0xB2F2], .bhi 0xF2),
   ([0xBFF2], .ble 0xF2),
   ([0xB3F2], .bls 0xF2),
   ([0xBDF2], .blt 0xF2),
   ([0xBBF2], .bmi 0xF2),
   ([0xB6F2], .bne 0xF2),
   ([0xBAF2], .bpl 0xF2),
   ([0xB8F2], .bvc 0xF2),
   ([0xB9F2], .bvs 0xF2),
   ([0x3780, 0x95AE], .lbra 0x95AE),
   ([0x3781, 0x95AE], .lbrn 0x95AE),
   ([0x3784, 0x95AE], .lbcc 0x95AE),
   ([0x3785, 0x95AE], .lbcs 0x95AE),
   ([0x3787, 0x95AE], .lbeq 0x95AE),
   ([0x378C, 0x95AE], .lbge 0x95AE),
   ([0x378E, 0x95AE], .lbgt 0x95AE),
   ([0x3782, 0x95AE], .lbhi 0x95AE),
   ([0x378F, 0x95AE], .lble 0x95AE),
   ([0x3783, 0x95AE], .lbls 0x95AE),
   ([0x378D, 0x95AE], .lblt 0x95AE),
   ([0x378B, 0x95AE], .lbmi 0x95AE),
   ([0x3786, 0x95AE], .lbne 0x95AE),
   ([0x378A, 0x95AE], .lbpl 0x95AE),
   ([0x3788, 0x95AE], .lbvc 0x95AE),
   ([0x3789, 0x95AE], .lbvs 0x95AE),
   ([0x3791, 0x95AE], .lbev 0x95AE),
   ([0x3790, 0x95AE], .lbmv 0x95AE),
   ([0x3AA3, 0x9B3D, 0x95AE], .brclr (.ext 0x9B3D) 0xA3 (.r16 0x95AE)),
   ([0xCBA3, 0xE7F2], .brclr (.ind8 .x 0xE7) 0xA3 (.r8 0xF2)),
   ([0x1AA3, 0x8A5C, 0x95AE], .brclr (.ind16 .y 0x8A5C) 0xA3 (.r16 0x95AE)),
   ([0x8BA3, 0xE7F2], .brset (.ind8 .x 0xE7) 0xA3 (.r8 0xF2)),
   ([0x1BA3, 0x8A5C, 0x95AE], .brset (.ind16 .y 0x8A5C) 0xA3 (.r16 0x95AE)),
   ([0x3BA3, 0x9B3D, 0x95AE], .brset (.ext 0x9B3D) 0xA3 (.r16 0x95AE))]

theorem test_decode_program_control_1 : decode_program_control_1.all decodesTo = true := by decide

/-- Words of 45_program_control.md, part 2. -/
def decode_program_control_2 : List (List Nat × Instr) :=
  [([0x4B5C, 0x8A5C], .jmp (.ind20 .x 0xC8A5C)),
   ([0x7A59, 0x9B3D], .jmp (.ext20 0x9 0x9B3D)),
   ([0x6B5C, 0x8A5C], .jmp (.ind20 .z 0xC8A5C)),
   ([0x36F2], .bsr 0xF2),
   ([0xA95C, 0x8A5C], .jsr (.ind20 .z 0xC8A5C)),
   ([0x27F9, 0x95AE], .lbsr 0x95AE),
   ([0x27F7], .rts),
   ([0x2777], .rti),
   ([0x3720], .swi)]

theorem test_decode_program_control_2 : decode_program_control_2.all decodesTo = true := by decide

/-- Words of 46_index_stack_ccr.md, part 1. -/
def decode_index_stack_ccr_1 : List (List Nat × Instr) :=
  [([0x374F], .abx),
   ([0x375F], .aby),
   ([0x376F], .abz),
   ([0x37CD], .adx),
   ([0x37DD], .ady),
   ([0x37ED], .adz),
   ([0x374D], .aex),
   ([0x375D], .aey),
   ([0x376D], .aez),
   ([0x373C, 0xC1E5], .aix (.i16 0xC1E5)),
   ([0x3DD6], .aiy (.i8 0xD6)),
   ([0x373E, 0xC1E5], .aiz (.i16 0xC1E5)),
   ([0x175C, 0x8A5C], .cpx (.mem (.ind16 .y 0x8A5C))),
   ([0x17EC, 0x8A5C], .ldx (.mem (.ind16 .z 0x8A5C))),
   ([0x9CE7], .stx (.ind8 .y 0xE7)),
   ([0x377D, 0xC1E5], .cpy (.imm16 0xC1E5)),
   ([0xCDE7], .ldy (.mem (.ind8 .x 0xE7))),
   ([0x179D, 0x8A5C], .sty (.ind16 .y 0x8A5C)),
   ([0x6EE7], .cpz (.mem (.ind8 .z 0xE7))),
   ([0x17CE, 0x8A5C], .ldz (.mem (.ind16 .x 0x8A5C))),
   ([0x8EE7], .stz (.ind8 .x 0xE7)),
   ([0x274F], .tsx),
   ([0x275F], .tsy),
   ([0x276F], .tsz),
   ([0x374E], .txs),
   ([0x275C], .txy),
   ([0x276C], .txz),
   ([0x375E], .tys),
   ([0x274D], .tyx),
   ([0x276D], .tyz),
   ([0x376E], .tzs),
   ([0x274E], .tzx),
   ([0x275E], .tzy),
   ([0x37CC], .xgdx),
   ([0x37DC], .xgdy),
   ([0x37EC], .xgdz),
   ([0x374C], .xgex),
   ([0x375C], .xgey),
   ([0x376C], .xgez),
   ([0x27FA], .tbek)]

theorem test_decode_index_stack_ccr_1 : decode_index_stack_ccr_1.all decodesTo = true := by decide

/-- Words of 46_index_stack_ccr.md, part 2. -/
def decode_index_stack_ccr_2 : List (List Nat × Instr) :=
  [([0x379F], .tbsk),
   ([0x379C], .tbxk),
   ([0x379D], .tbyk),
   ([0x379E], .tbzk),
   ([0x27BB], .tekb),
   ([0x37AF], .tskb),
   ([0x37AC], .txkb),
   ([0x37AD], .tykb),
   ([0x37AE], .tzkb),
   ([0x373F, 0xC1E5], .ais (.i16 0xC1E5)),
   ([0x6FE7], .cps (.mem (.ind8 .z 0xE7))),
   ([0x17CF, 0x8A5C], .lds (.mem (.ind16 .x 0x8A5C))),
   ([0x179F, 0x8A5C], .sts (.ind16 .y 0x8A5C)),
   ([0x3708], .psha),
   ([0x3718], .pshb),
   ([0x34D6], .pshm 0xD6),
   ([0x3709], .pula),
   ([0x3719], .pulb),
   ([0x35D6], .pulm 0xD6),
   ([0x373A, 0xC1E5], .andp 0xC1E5),
   ([0x373B, 0xC1E5], .orp 0xC1E5),
   ([0x37FD], .tap),
   ([0x372D], .tdp),
   ([0x37FC], .tpa),
   ([0x372C], .tpd),
   ([0x27F1], .lpstop),
   ([0x27F3], .wai),
   ([0x37A6], .bgnd),
   ([0x274C], .nop)]

theorem test_decode_index_stack_ccr_2 : decode_index_stack_ccr_2.all decodesTo = true := by decide

/-- Words of 47_dsp.md, part 1. -/
def decode_mac_unit : List (List Nat × Instr) :=
  [([0x3722], .ace),
   ([0x3723], .aced),
   ([0x27B6], .aslm),
   ([0x27BA], .asrm),
   ([0x27B7], .clrm),
   ([0x27B0], .ldhi),
   ([0x7B2E], .mac 0x2 0xE),
   ([0x27B8], .pshmac),
   ([0x27B9], .pulmac),
   ([0xFB2E], .rmac 0x2 0xE),
   ([0x27B4], .tmer),
   ([0x27B5], .tmet),
   ([0x372F], .tdmsk),
   ([0x27B1], .tedm),
   ([0x27B2], .tem),
   ([0x27B3], .tmxed)]

theorem test_decode_mac_unit : decode_mac_unit.all decodesTo = true := by decide

/-- The z nibble of JMP and JSR is not looked at (95_test_vectors.md V0, 92_eei_decisions.md D14). -/
theorem test_decode_z_nibble : (decodeWords [0x7AF1, 0x2344]).toOption = some (.jmp (.ext20 1 0x2344)) := by decide

/-- 95_test_vectors.md V0: unassigned words of the four pages. -/
theorem test_decode_unassigned :
    [0x0700, 0xFF00, 0x1707, 0x2707, 0x372E].all (fun w => (decode w 0 0).toOption.isNone) = true := by decide

/-- 30_encoding.md R154 on words that are too short: MOVB EXT to EXT has three. -/
theorem test_decode_truncated : (decodeBytes [0x37, 0xFE, 0x10, 0x00]).toOption = none := by decide

/-- The host's numbering: ANDP #$FF1F is 373A FF1F, the first word in bits 15 to 0. -/
theorem test_decode_table_word : decodeTableWord 32 0xFF1F373A = some (.andp 0xFF1F) := by decide

/-! ### Vectors: one instruction on a small state -/

/-- A field that a vector sets before, or expects after, one instruction. -/
inductive Fld where
  | a | b | d | e | ed | ix | iy | iz | sp | xkix | ykiy | zkiz | sksp
  | ek | xk | yk | zk | sk | k | ccr
  | flag (n : Nat)
  | am | hr | ir | sl | xmsk | ymsk
  | byte (n : Nat)
  | word (n : Nat)
  | ia

/-- The state with a field set. -/
def Fld.put (s : State) : Fld → Nat → State
  | .a, v => s.setA (BitVec.ofNat 8 v)
  | .b, v => s.setB (BitVec.ofNat 8 v)
  | .d, v => s.setD (BitVec.ofNat 16 v)
  | .e, v => s.setE (BitVec.ofNat 16 v)
  | .ed, v => s.setED (BitVec.ofNat 32 v)
  | .ix, v => s.setIX (BitVec.ofNat 16 v)
  | .iy, v => s.setIY (BitVec.ofNat 16 v)
  | .iz, v => s.setIZ (BitVec.ofNat 16 v)
  | .sp, v => s.setSP (BitVec.ofNat 16 v)
  | .xkix, v => s.setXkix (BitVec.ofNat 20 v)
  | .ykiy, v => s.setYkiy (BitVec.ofNat 20 v)
  | .zkiz, v => s.setZkiz (BitVec.ofNat 20 v)
  | .sksp, v => s.setSksp (BitVec.ofNat 20 v)
  | .ek, v => s.setEK (BitVec.ofNat 4 v)
  | .xk, v => s.setXK (BitVec.ofNat 4 v)
  | .yk, v => s.setYK (BitVec.ofNat 4 v)
  | .zk, v => s.setZK (BitVec.ofNat 4 v)
  | .sk, v => s.setSK (BitVec.ofNat 4 v)
  | .k, v => s.setK (BitVec.ofNat 16 v)
  | .ccr, v => s.setCcr (BitVec.ofNat 16 v)
  | .flag n, v => s.setCcr (withCcrBit n (v == 1) s.reg.ccr)
  | .am, v => s.setAM (BitVec.ofNat 36 v)
  | .hr, v => s.setHR (BitVec.ofNat 16 v)
  | .ir, v => s.setIR (BitVec.ofNat 16 v)
  | .sl, v => s.setSL (v == 1)
  | .xmsk, v => s.setXMSK (BitVec.ofNat 8 v)
  | .ymsk, v => s.setYMSK (BitVec.ofNat 8 v)
  | .byte n, v => { s with mem := Memory.write s.mem n (BitVec.ofNat 8 v) }
  | .word n, v =>
    { s with mem := Memory.write (Memory.write s.mem n (BitVec.ofNat 8 (v / 256))) (n + 1) (BitVec.ofNat 8 (v % 256)) }
  | .ia, v => s.setPkpc (BitVec.ofNat 20 (v + 6))

/-- A field as a number. -/
def Fld.get (s : State) : Fld → Nat
  | .a => s.reg.a.toNat
  | .b => s.reg.b.toNat
  | .d => s.d.toNat
  | .e => s.reg.e.toNat
  | .ed => s.ed.toNat
  | .ix => s.reg.ix.toNat
  | .iy => s.reg.iy.toNat
  | .iz => s.reg.iz.toNat
  | .sp => s.reg.sp.toNat
  | .xkix => s.xkix.toNat
  | .ykiy => s.ykiy.toNat
  | .zkiz => s.zkiz.toNat
  | .sksp => s.sksp.toNat
  | .ek => s.reg.ek.toNat
  | .xk => s.reg.xk.toNat
  | .yk => s.reg.yk.toNat
  | .zk => s.reg.zk.toNat
  | .sk => s.reg.sk.toNat
  | .k => s.k.toNat
  | .ccr => s.reg.ccr.toNat
  | .flag n => (ccrBit n s.reg.ccr).toNat
  | .am => s.mac.am.toNat
  | .hr => s.mac.hr.toNat
  | .ir => s.mac.ir.toNat
  | .sl => s.mac.sl.toNat
  | .xmsk => s.mac.xmsk.toNat
  | .ymsk => s.mac.ymsk.toNat
  | .byte n => (Memory.read s.mem n).toNat
  | .word n => 256 * (Memory.read s.mem n).toNat + (Memory.read s.mem (n + 1)).toNat
  | .ia => s.ia.toNat

/-- The instruction's words, the fields set before, the fields expected after. -/
abbrev Vec := List Nat × List (Fld × Nat) × List (Fld × Nat)

/-- Running, the window closed, CCR 0, an instruction at $00100. -/
def start : State :=
  { State.reset with reg := { Regs.reset with ccr := 0, pc := 0x0106 },
                     ctl := { Control.reset with berrWindow := false } }

/-- The words decode, the instruction answers a next state, and the fields are as expected. -/
def Vec.ok (v : Vec) : Bool :=
  match decodeWords (v.1.map (BitVec.ofNat 16)) with
  | .error _ => false
  | .ok i =>
    match exec i (v.2.1.foldl (fun s e => e.1.put s e.2) start) with
    | .next t => v.2.2.all fun e => e.1.get t == e.2
    | .fault _ => false
    | .refused _ => false

/-- 95_test_vectors.md V2, part 1. -/
def vectors_data_movement : List Vec :=
  [([0x7580], [(.flag 11, 0), (.flag 10, 1), (.flag 9, 1), (.flag 8, 1)], [(.a, 0x80), (.flag 11, 1), (.flag 10, 0), (.flag 9, 0), (.flag 8, 1)]),
   ([0x7500], [(.flag 11, 1), (.flag 10, 0), (.flag 9, 1), (.flag 8, 1)], [(.a, 0x0), (.flag 11, 0), (.flag 10, 1), (.flag 9, 0), (.flag 8, 1)]),
   ([0xF57F], [(.flag 11, 1), (.flag 10, 1), (.flag 9, 1), (.flag 8, 1)], [(.b, 0x7F), (.flag 11, 0), (.flag 10, 0), (.flag 9, 0), (.flag 8, 1)]),
   ([0x37B5, 0x8000], [(.flag 11, 0), (.flag 10, 1), (.flag 9, 1), (.flag 8, 1)], [(.d, 0x8000), (.flag 11, 1), (.flag 10, 0), (.flag 9, 0), (.flag 8, 1)]),
   ([0x37B5, 0x0000], [(.flag 11, 1), (.flag 10, 0), (.flag 9, 1), (.flag 8, 1)], [(.d, 0x0), (.flag 11, 0), (.flag 10, 1), (.flag 9, 0), (.flag 8, 1)]),
   ([0x3735, 0xFFFF], [(.flag 11, 0), (.flag 10, 1), (.flag 9, 1), (.flag 8, 1)], [(.e, 0xFFFF), (.flag 11, 1), (.flag 10, 0), (.flag 9, 0), (.flag 8, 1)]),
   ([0x2771, 0xFFFE], [(.ek, 0x0), (.flag 13, 1), (.flag 11, 1), (.flag 10, 1), (.flag 9, 1), (.flag 8, 1), (.flag 14, 1), (.flag 12, 1), (.byte 0xFFFE, 0x11), (.byte 0xFFFF, 0x22), (.byte 0x10000, 0x33), (.byte 0x10001, 0x44)], [(.e, 0x1122), (.d, 0x3344), (.flag 13, 1), (.flag 11, 1), (.flag 10, 1), (.flag 9, 1), (.flag 8, 1), (.flag 14, 1), (.flag 12, 1)]),
   ([0x3001, 0x2000], [(.xkix, 0x1000), (.byte 0x1000, 0xFF), (.ek, 0x0), (.flag 11, 0), (.flag 10, 1), (.flag 9, 1)], [(.byte 0x2000, 0xFF), (.ix, 0x1001), (.flag 11, 1), (.flag 10, 0), (.flag 9, 0)]),
   ([0x32FF, 0x2000], [(.xkix, 0x10000), (.byte 0x2000, 0x0), (.ek, 0x0), (.flag 11, 1), (.flag 10, 0), (.flag 9, 1)], [(.xkix, 0xFFFF), (.byte 0x10000, 0x0), (.flag 11, 0), (.flag 10, 1), (.flag 9, 0)]),
   ([0x37FF, 0x1000, 0x2000], [(.word 0x1000, 0x8000), (.ek, 0x0), (.flag 11, 0), (.flag 10, 1), (.flag 9, 1)], [(.word 0x2000, 0x8000), (.flag 11, 1), (.flag 10, 0), (.flag 9, 0)]),
   ([0x3102, 0x3000], [(.xkix, 0x1000), (.word 0x1000, 0x1), (.flag 11, 1), (.flag 10, 1), (.flag 9, 1)], [(.word 0x3000, 0x1), (.ix, 0x1002), (.flag 11, 0), (.flag 10, 0), (.flag 9, 0)]),
   ([0x4A00], [(.xkix, 0x12000), (.a, 0x0), (.flag 11, 1), (.flag 10, 0), (.flag 9, 1)], [(.byte 0x12000, 0x0), (.flag 11, 0), (.flag 10, 1), (.flag 9, 0)]),
   ([0x37FA, 0x00FF], [(.d, 0xABCD), (.flag 11, 0), (.flag 10, 1), (.flag 9, 1)], [(.byte 0xFF, 0xAB), (.byte 0x100, 0xCD), (.flag 11, 1), (.flag 10, 0), (.flag 9, 0)]),
   ([0x377A, 0x0200], [(.e, 0x8001), (.ek, 0x2), (.flag 11, 0), (.flag 10, 1), (.flag 9, 1)], [(.byte 0x20200, 0x80), (.byte 0x20201, 0x1), (.flag 11, 1), (.flag 10, 0), (.flag 9, 0)]),
   ([0x2773, 0x0101], [(.e, 0x1234), (.d, 0x5678), (.ek, 0x0), (.flag 13, 1), (.flag 11, 1), (.flag 10, 1), (.flag 9, 1), (.flag 8, 1), (.flag 14, 1), (.flag 12, 1)], [(.byte 0x101, 0x12), (.byte 0x102, 0x34), (.byte 0x103, 0x56), (.byte 0x104, 0x78), (.flag 13, 1), (.flag 11, 1), (.flag 10, 1), (.flag 9, 1), (.flag 8, 1), (.flag 14, 1), (.flag 12, 1)]),
   ([0x3717], [(.a, 0x80), (.b, 0x1), (.flag 11, 0), (.flag 10, 1), (.flag 9, 1)], [(.b, 0x80), (.flag 11, 1), (.flag 10, 0), (.flag 9, 0)]),
   ([0x3707], [(.a, 0x80), (.b, 0x0), (.flag 11, 1), (.flag 10, 0), (.flag 9, 1)], [(.a, 0x0), (.flag 11, 0), (.flag 10, 1), (.flag 9, 0)]),
   ([0x277B], [(.d, 0x0), (.e, 0x1234), (.flag 11, 1), (.flag 10, 0), (.flag 9, 1)], [(.e, 0x0), (.flag 11, 0), (.flag 10, 1), (.flag 9, 0)]),
   ([0x27FB], [(.e, 0x8000), (.flag 11, 0), (.flag 10, 1), (.flag 9, 1)], [(.d, 0x8000), (.flag 11, 1), (.flag 10, 0), (.flag 9, 0)]),
   ([0x371A], [(.d, 0x12AB), (.flag 13, 1), (.flag 11, 1), (.flag 10, 1), (.flag 9, 1), (.flag 8, 1), (.flag 14, 1), (.flag 12, 1)], [(.d, 0xAB12), (.flag 13, 1), (.flag 11, 1), (.flag 10, 1), (.flag 9, 1), (.flag 8, 1), (.flag 14, 1), (.flag 12, 1)]),
   ([0x277A], [(.d, 0x1), (.e, 0x8000), (.flag 13, 1), (.flag 11, 1), (.flag 10, 1), (.flag 9, 1), (.flag 8, 1), (.flag 14, 1), (.flag 12, 1)], [(.d, 0x8000), (.e, 0x1), (.flag 13, 1), (.flag 11, 1), (.flag 10, 1), (.flag 9, 1), (.flag 8, 1), (.flag 14, 1), (.flag 12, 1)])]

theorem test_vectors_data_movement : vectors_data_movement.all Vec.ok = true := by decide

/-- 95_test_vectors.md V3 and V4, part 1. -/
def vectors_arithmetic_1 : List Vec :=
  [([0x370B], [(.a, 0x38), (.b, 0x49), (.flag 13, 0), (.flag 11, 0), (.flag 10, 1), (.flag 9, 0), (.flag 8, 1)], [(.a, 0x81), (.flag 13, 1), (.flag 11, 1), (.flag 10, 0), (.flag 9, 1), (.flag 8, 0)]),
   ([0x7300], [(.a, 0xFF), (.flag 8, 1), (.flag 13, 0), (.flag 11, 1), (.flag 10, 0), (.flag 9, 1)], [(.a, 0x0), (.flag 13, 1), (.flag 11, 0), (.flag 10, 1), (.flag 9, 0), (.flag 8, 1)]),
   ([0x7300], [(.a, 0x7F), (.flag 8, 1), (.flag 13, 0), (.flag 11, 0), (.flag 10, 1), (.flag 9, 0)], [(.a, 0x80), (.flag 13, 1), (.flag 11, 1), (.flag 10, 0), (.flag 9, 1), (.flag 8, 0)]),
   ([0xF37F], [(.b, 0x80), (.flag 8, 1), (.flag 13, 0), (.flag 11, 1), (.flag 10, 0), (.flag 9, 1)], [(.b, 0x0), (.flag 13, 1), (.flag 11, 0), (.flag 10, 1), (.flag 9, 0), (.flag 8, 1)]),
   ([0x37B3, 0x0000], [(.d, 0xFFFF), (.flag 8, 1), (.flag 11, 1), (.flag 10, 0), (.flag 9, 1), (.flag 13, 1)], [(.d, 0x0), (.flag 11, 0), (.flag 10, 1), (.flag 9, 0), (.flag 8, 1), (.flag 13, 1)]),
   ([0x3733, 0x0000], [(.e, 0x7FFF), (.flag 8, 1), (.flag 11, 0), (.flag 10, 1), (.flag 9, 0), (.flag 13, 1)], [(.e, 0x8000), (.flag 11, 1), (.flag 10, 0), (.flag 9, 1), (.flag 8, 0), (.flag 13, 1)]),
   ([0x3733, 0x0000], [(.e, 0x1), (.flag 8, 0), (.flag 11, 1), (.flag 10, 1), (.flag 9, 1), (.flag 13, 1)], [(.e, 0x1), (.flag 11, 0), (.flag 10, 0), (.flag 9, 0), (.flag 8, 0), (.flag 13, 1)]),
   ([0x7101], [(.a, 0x7F), (.flag 13, 0), (.flag 11, 0), (.flag 10, 1), (.flag 9, 0), (.flag 8, 1)], [(.a, 0x80), (.flag 13, 1), (.flag 11, 1), (.flag 10, 0), (.flag 9, 1), (.flag 8, 0)]),
   ([0x7180], [(.a, 0x80), (.flag 13, 1), (.flag 11, 1), (.flag 10, 0), (.flag 9, 0), (.flag 8, 0)], [(.a, 0x0), (.flag 13, 0), (.flag 11, 0), (.flag 10, 1), (.flag 9, 1), (.flag 8, 1)]),
   ([0xF149], [(.b, 0x38), (.flag 13, 0), (.flag 11, 0), (.flag 10, 1), (.flag 9, 0), (.flag 8, 1)], [(.b, 0x81), (.flag 13, 1), (.flag 11, 1), (.flag 10, 0), (.flag 9, 1), (.flag 8, 0)]),
   ([0x37B1, 0x0001], [(.d, 0x7FFF), (.flag 11, 0), (.flag 10, 1), (.flag 9, 0), (.flag 8, 1), (.flag 13, 1)], [(.d, 0x8000), (.flag 11, 1), (.flag 10, 0), (.flag 9, 1), (.flag 8, 0), (.flag 13, 1)]),
   ([0x37B1, 0x0001], [(.d, 0xFFFF), (.flag 11, 1), (.flag 10, 0), (.flag 9, 1), (.flag 8, 0), (.flag 13, 1)], [(.d, 0x0), (.flag 11, 0), (.flag 10, 1), (.flag 9, 0), (.flag 8, 1), (.flag 13, 1)]),
   ([0x3731, 0xEDCC], [(.e, 0x1234), (.flag 11, 1), (.flag 10, 0), (.flag 9, 1), (.flag 8, 0), (.flag 13, 1)], [(.e, 0x0), (.flag 11, 0), (.flag 10, 1), (.flag 9, 0), (.flag 8, 1), (.flag 13, 1)]),
   ([0x7C80], [(.e, 0x0), (.flag 11, 0), (.flag 10, 1), (.flag 9, 1), (.flag 8, 1), (.flag 13, 1)], [(.e, 0xFF80), (.flag 11, 1), (.flag 10, 0), (.flag 9, 0), (.flag 8, 0), (.flag 13, 1)]),
   ([0x2778], [(.e, 0x8000), (.d, 0xFFFF), (.flag 11, 1), (.flag 10, 1), (.flag 9, 0), (.flag 8, 0)], [(.e, 0x7FFF), (.flag 11, 0), (.flag 10, 0), (.flag 9, 1), (.flag 8, 1)]),
   ([0x370A], [(.a, 0x10), (.b, 0x20), (.flag 11, 0), (.flag 10, 1), (.flag 9, 1), (.flag 8, 0)], [(.a, 0xF0), (.flag 11, 1), (.flag 10, 0), (.flag 9, 0), (.flag 8, 1)]),
   ([0x72FF], [(.a, 0x0), (.flag 8, 1), (.flag 11, 1), (.flag 10, 0), (.flag 9, 1), (.flag 13, 1)], [(.a, 0x0), (.flag 11, 0), (.flag 10, 1), (.flag 9, 0), (.flag 8, 1), (.flag 13, 1)]),
   ([0x7200], [(.a, 0x80), (.flag 8, 1), (.flag 11, 1), (.flag 10, 1), (.flag 9, 0), (.flag 13, 1)], [(.a, 0x7F), (.flag 11, 0), (.flag 10, 0), (.flag 9, 1), (.flag 8, 0), (.flag 13, 1)]),
   ([0xF200], [(.b, 0x0), (.flag 8, 1), (.flag 11, 0), (.flag 10, 1), (.flag 9, 1), (.flag 13, 1)], [(.b, 0xFF), (.flag 11, 1), (.flag 10, 0), (.flag 9, 0), (.flag 8, 1), (.flag 13, 1)]),
   ([0x37B2, 0xFFFF], [(.d, 0x0), (.flag 8, 1), (.flag 11, 1), (.flag 10, 0), (.flag 9, 1)], [(.d, 0x0), (.flag 11, 0), (.flag 10, 1), (.flag 9, 0), (.flag 8, 1)]),
   ([0x3732, 0x0000], [(.e, 0x8000), (.flag 8, 1), (.flag 11, 1), (.flag 10, 1), (.flag 9, 0)], [(.e, 0x7FFF), (.flag 11, 0), (.flag 10, 0), (.flag 9, 1), (.flag 8, 0)]),
   ([0x2779], [(.e, 0x0), (.d, 0x1), (.flag 11, 0), (.flag 10, 1), (.flag 9, 1), (.flag 8, 0)], [(.e, 0xFFFF), (.flag 11, 1), (.flag 10, 0), (.flag 9, 0), (.flag 8, 1)]),
   ([0x7001], [(.a, 0x80), (.flag 11, 1), (.flag 10, 1), (.flag 9, 0), (.flag 8, 1), (.flag 13, 1)], [(.a, 0x7F), (.flag 11, 0), (.flag 10, 0), (.flag 9, 1), (.flag 8, 0), (.flag 13, 1)]),
   ([0x7001], [(.a, 0x0), (.flag 11, 0), (.flag 10, 1), (.flag 9, 1), (.flag 8, 0), (.flag 13, 1)], [(.a, 0xFF), (.flag 11, 1), (.flag 10, 0), (.flag 9, 0), (.flag 8, 1), (.flag 13, 1)])]

theorem test_vectors_arithmetic_1 : vectors_arithmetic_1.all Vec.ok = true := by decide

/-- 95_test_vectors.md V3 and V4, part 2. -/
def vectors_arithmetic_2 : List Vec :=
  [([0xF001], [(.b, 0x10), (.flag 11, 1), (.flag 10, 1), (.flag 9, 1), (.flag 8, 1), (.flag 13, 1)], [(.b, 0xF), (.flag 11, 0), (.flag 10, 0), (.flag 9, 0), (.flag 8, 0), (.flag 13, 1)]),
   ([0x37B0, 0x0001], [(.d, 0x8000), (.flag 11, 1), (.flag 10, 1), (.flag 9, 0), (.flag 8, 1)], [(.d, 0x7FFF), (.flag 11, 0), (.flag 10, 0), (.flag 9, 1), (.flag 8, 0)]),
   ([0x37B0, 0x8000], [(.d, 0x0), (.flag 11, 0), (.flag 10, 1), (.flag 9, 0), (.flag 8, 0)], [(.d, 0x8000), (.flag 11, 1), (.flag 10, 0), (.flag 9, 1), (.flag 8, 1)]),
   ([0x3730, 0x0001], [(.e, 0x0), (.flag 11, 0), (.flag 10, 1), (.flag 9, 1), (.flag 8, 0)], [(.e, 0xFFFF), (.flag 11, 1), (.flag 10, 0), (.flag 9, 0), (.flag 8, 1)]),
   ([0x3721], [(.a, 0x81), (.flag 8, 0), (.flag 13, 1), (.flag 11, 0), (.flag 10, 1)], [(.a, 0x87)]),
   ([0x3721], [(.a, 0x9A), (.flag 8, 0), (.flag 13, 0), (.flag 11, 1), (.flag 10, 0)], [(.a, 0x0)]),
   ([0x371B], [(.a, 0x80), (.b, 0x7F), (.flag 11, 1), (.flag 10, 1), (.flag 9, 0), (.flag 8, 1)], [(.flag 11, 0), (.flag 10, 0), (.flag 9, 1), (.flag 8, 0)]),
   ([0x7805], [(.a, 0x5), (.flag 11, 1), (.flag 10, 0), (.flag 9, 1), (.flag 8, 1), (.flag 13, 1)], [(.a, 0x5), (.flag 11, 0), (.flag 10, 1), (.flag 9, 0), (.flag 8, 0), (.flag 13, 1)]),
   ([0x7806], [(.a, 0x5), (.flag 11, 0), (.flag 10, 1), (.flag 9, 1), (.flag 8, 0), (.flag 13, 1)], [(.a, 0x5), (.flag 11, 1), (.flag 10, 0), (.flag 9, 0), (.flag 8, 1), (.flag 13, 1)]),
   ([0xF801], [(.b, 0x80), (.flag 11, 1), (.flag 10, 1), (.flag 9, 0), (.flag 8, 1), (.flag 13, 1)], [(.b, 0x80), (.flag 11, 0), (.flag 10, 0), (.flag 9, 1), (.flag 8, 0), (.flag 13, 1)]),
   ([0x37B8, 0x8000], [(.d, 0x7FFF), (.flag 11, 0), (.flag 10, 1), (.flag 9, 0), (.flag 8, 0)], [(.d, 0x7FFF), (.flag 11, 1), (.flag 10, 0), (.flag 9, 1), (.flag 8, 1)]),
   ([0x3738, 0x0002], [(.e, 0x1), (.flag 11, 0), (.flag 10, 1), (.flag 9, 1), (.flag 8, 0)], [(.e, 0x1), (.flag 11, 1), (.flag 10, 0), (.flag 9, 0), (.flag 8, 1)]),
   ([0x1736, 0x0300], [(.byte 0x300, 0xFF), (.flag 11, 0), (.flag 10, 1), (.flag 9, 1), (.flag 8, 1)], [(.byte 0x300, 0xFF), (.flag 11, 1), (.flag 10, 0), (.flag 9, 0), (.flag 8, 0)]),
   ([0x3706], [(.a, 0x80), (.flag 11, 0), (.flag 10, 1), (.flag 9, 1), (.flag 8, 1)], [(.a, 0x80), (.flag 11, 1), (.flag 10, 0), (.flag 9, 0), (.flag 8, 0)]),
   ([0x3706], [(.a, 0x0), (.flag 11, 1), (.flag 10, 0), (.flag 9, 1), (.flag 8, 1)], [(.a, 0x0), (.flag 11, 0), (.flag 10, 1), (.flag 9, 0), (.flag 8, 0)]),
   ([0x27F6], [(.d, 0x8000), (.flag 11, 0), (.flag 10, 1), (.flag 9, 1), (.flag 8, 1)], [(.d, 0x8000), (.flag 11, 1), (.flag 10, 0), (.flag 9, 0), (.flag 8, 0)]),
   ([0x2776], [(.e, 0x0), (.flag 11, 1), (.flag 10, 0), (.flag 9, 1), (.flag 8, 1)], [(.e, 0x0), (.flag 11, 0), (.flag 10, 1), (.flag 9, 0), (.flag 8, 0)]),
   ([0x2736, 0x0300], [(.word 0x300, 0x8000), (.flag 11, 0), (.flag 10, 1), (.flag 9, 1), (.flag 8, 1)], [(.word 0x300, 0x8000), (.flag 11, 1), (.flag 10, 0), (.flag 9, 0), (.flag 8, 0)]),
   ([0x2736, 0x0300], [(.word 0x300, 0x0), (.flag 11, 1), (.flag 10, 0), (.flag 9, 1), (.flag 8, 1)], [(.word 0x300, 0x0), (.flag 11, 0), (.flag 10, 1), (.flag 9, 0), (.flag 8, 0)]),
   ([0x1731, 0x0300], [(.byte 0x300, 0x80), (.flag 11, 1), (.flag 10, 1), (.flag 9, 0), (.flag 8, 1)], [(.byte 0x300, 0x7F), (.flag 11, 0), (.flag 10, 0), (.flag 9, 1), (.flag 8, 1)]),
   ([0x1731, 0x0300], [(.byte 0x300, 0x1), (.flag 11, 1), (.flag 10, 0), (.flag 9, 1), (.flag 8, 1)], [(.byte 0x300, 0x0), (.flag 11, 0), (.flag 10, 1), (.flag 9, 0), (.flag 8, 1)]),
   ([0x3701], [(.a, 0x80), (.flag 11, 1), (.flag 10, 1), (.flag 9, 0), (.flag 8, 1)], [(.a, 0x7F), (.flag 11, 0), (.flag 10, 0), (.flag 9, 1), (.flag 8, 1)]),
   ([0x3701], [(.a, 0x0), (.flag 11, 0), (.flag 10, 1), (.flag 9, 1), (.flag 8, 1)], [(.a, 0xFF), (.flag 11, 1), (.flag 10, 0), (.flag 9, 0), (.flag 8, 1)]),
   ([0x3711], [(.b, 0x7F), (.flag 11, 1), (.flag 10, 1), (.flag 9, 1), (.flag 8, 1)], [(.b, 0x7E), (.flag 11, 0), (.flag 10, 0), (.flag 9, 0), (.flag 8, 1)])]

theorem test_vectors_arithmetic_2 : vectors_arithmetic_2.all Vec.ok = true := by decide

/-- 95_test_vectors.md V3 and V4, part 3. -/
def vectors_arithmetic_3 : List Vec :=
  [([0x2731, 0x0300], [(.word 0x300, 0x8000), (.flag 11, 1), (.flag 10, 1), (.flag 9, 0), (.flag 8, 1)], [(.word 0x300, 0x7FFF), (.flag 11, 0), (.flag 10, 0), (.flag 9, 1), (.flag 8, 1)]),
   ([0x2731, 0x0300], [(.word 0x300, 0x1), (.flag 11, 1), (.flag 10, 0), (.flag 9, 1), (.flag 8, 1)], [(.word 0x300, 0x0), (.flag 11, 0), (.flag 10, 1), (.flag 9, 0), (.flag 8, 1)]),
   ([0x1733, 0x0300], [(.byte 0x300, 0x7F), (.flag 11, 0), (.flag 10, 1), (.flag 9, 0), (.flag 8, 1)], [(.byte 0x300, 0x80), (.flag 11, 1), (.flag 10, 0), (.flag 9, 1), (.flag 8, 1)]),
   ([0x1733, 0x0300], [(.byte 0x300, 0xFF), (.flag 11, 1), (.flag 10, 0), (.flag 9, 1), (.flag 8, 1)], [(.byte 0x300, 0x0), (.flag 11, 0), (.flag 10, 1), (.flag 9, 0), (.flag 8, 1)]),
   ([0x3703], [(.a, 0x7F), (.flag 11, 0), (.flag 10, 1), (.flag 9, 0), (.flag 8, 1)], [(.a, 0x80), (.flag 11, 1), (.flag 10, 0), (.flag 9, 1), (.flag 8, 1)]),
   ([0x3703], [(.a, 0xFF), (.flag 11, 1), (.flag 10, 0), (.flag 9, 1), (.flag 8, 1)], [(.a, 0x0), (.flag 11, 0), (.flag 10, 1), (.flag 9, 0), (.flag 8, 1)]),
   ([0x3713], [(.b, 0xFE), (.flag 11, 0), (.flag 10, 1), (.flag 9, 1), (.flag 8, 1)], [(.b, 0xFF), (.flag 11, 1), (.flag 10, 0), (.flag 9, 0), (.flag 8, 1)]),
   ([0x2733, 0x0300], [(.word 0x300, 0x7FFF), (.flag 11, 0), (.flag 10, 1), (.flag 9, 0), (.flag 8, 1)], [(.word 0x300, 0x8000), (.flag 11, 1), (.flag 10, 0), (.flag 9, 1), (.flag 8, 1)]),
   ([0x2733, 0x0300], [(.word 0x300, 0xFFFF), (.flag 11, 1), (.flag 10, 0), (.flag 9, 1), (.flag 8, 1)], [(.word 0x300, 0x0), (.flag 11, 0), (.flag 10, 1), (.flag 9, 0), (.flag 8, 1)]),
   ([0x1735, 0x0300], [(.byte 0x300, 0x77), (.flag 11, 1), (.flag 10, 0), (.flag 9, 1), (.flag 8, 1)], [(.byte 0x300, 0x0), (.flag 11, 0), (.flag 10, 1), (.flag 9, 0), (.flag 8, 0)]),
   ([0x3705], [(.a, 0xA5), (.flag 11, 1), (.flag 10, 0), (.flag 9, 1), (.flag 8, 1)], [(.a, 0x0), (.flag 11, 0), (.flag 10, 1), (.flag 9, 0), (.flag 8, 0)]),
   ([0x27F5], [(.d, 0x1234), (.flag 11, 1), (.flag 10, 0), (.flag 9, 1), (.flag 8, 1)], [(.d, 0x0), (.flag 11, 0), (.flag 10, 1), (.flag 9, 0), (.flag 8, 0)]),
   ([0x2775], [(.e, 0xFFFF), (.flag 11, 1), (.flag 10, 0), (.flag 9, 1), (.flag 8, 1)], [(.e, 0x0), (.flag 11, 0), (.flag 10, 1), (.flag 9, 0), (.flag 8, 0)]),
   ([0x2735, 0x0300], [(.word 0x300, 0xBEEF), (.flag 11, 1), (.flag 10, 0), (.flag 9, 1), (.flag 8, 1)], [(.word 0x300, 0x0), (.flag 11, 0), (.flag 10, 1), (.flag 9, 0), (.flag 8, 0)]),
   ([0x1730, 0x0300], [(.byte 0x300, 0xF0), (.flag 11, 1), (.flag 10, 1), (.flag 9, 1), (.flag 8, 0)], [(.byte 0x300, 0xF), (.flag 11, 0), (.flag 10, 0), (.flag 9, 0), (.flag 8, 1)]),
   ([0x3700], [(.a, 0x0), (.flag 11, 0), (.flag 10, 1), (.flag 9, 1), (.flag 8, 0)], [(.a, 0xFF), (.flag 11, 1), (.flag 10, 0), (.flag 9, 0), (.flag 8, 1)]),
   ([0x3700], [(.a, 0xFF), (.flag 11, 1), (.flag 10, 0), (.flag 9, 1), (.flag 8, 0)], [(.a, 0x0), (.flag 11, 0), (.flag 10, 1), (.flag 9, 0), (.flag 8, 1)]),
   ([0x27F0], [(.d, 0xFFFF), (.flag 11, 1), (.flag 10, 0), (.flag 9, 1), (.flag 8, 0)], [(.d, 0x0), (.flag 11, 0), (.flag 10, 1), (.flag 9, 0), (.flag 8, 1)]),
   ([0x2770], [(.e, 0xFF), (.flag 11, 0), (.flag 10, 1), (.flag 9, 1), (.flag 8, 0)], [(.e, 0xFF00), (.flag 11, 1), (.flag 10, 0), (.flag 9, 0), (.flag 8, 1)]),
   ([0x2730, 0x0300], [(.word 0x300, 0x0), (.flag 11, 0), (.flag 10, 1), (.flag 9, 1), (.flag 8, 0)], [(.word 0x300, 0xFFFF), (.flag 11, 1), (.flag 10, 0), (.flag 9, 0), (.flag 8, 1)]),
   ([0x1732, 0x0300], [(.byte 0x300, 0x80), (.flag 11, 0), (.flag 10, 1), (.flag 9, 0), (.flag 8, 0)], [(.byte 0x300, 0x80), (.flag 11, 1), (.flag 10, 0), (.flag 9, 1), (.flag 8, 1)]),
   ([0x1732, 0x0300], [(.byte 0x300, 0x1), (.flag 11, 0), (.flag 10, 1), (.flag 9, 1), (.flag 8, 0)], [(.byte 0x300, 0xFF), (.flag 11, 1), (.flag 10, 0), (.flag 9, 0), (.flag 8, 1)]),
   ([0x3702], [(.a, 0x80), (.flag 11, 0), (.flag 10, 1), (.flag 9, 0), (.flag 8, 0)], [(.a, 0x80), (.flag 11, 1), (.flag 10, 0), (.flag 9, 1), (.flag 8, 1)]),
   ([0x3702], [(.a, 0x0), (.flag 11, 1), (.flag 10, 0), (.flag 9, 1), (.flag 8, 1)], [(.a, 0x0), (.flag 11, 0), (.flag 10, 1), (.flag 9, 0), (.flag 8, 0)])]

theorem test_vectors_arithmetic_3 : vectors_arithmetic_3.all Vec.ok = true := by decide

/-- 95_test_vectors.md V3 and V4, part 4. -/
def vectors_arithmetic_4 : List Vec :=
  [([0x3712], [(.b, 0x7F), (.flag 11, 0), (.flag 10, 1), (.flag 9, 1), (.flag 8, 0)], [(.b, 0x81), (.flag 11, 1), (.flag 10, 0), (.flag 9, 0), (.flag 8, 1)]),
   ([0x27F2], [(.d, 0x8000), (.flag 11, 0), (.flag 10, 1), (.flag 9, 0), (.flag 8, 0)], [(.d, 0x8000), (.flag 11, 1), (.flag 10, 0), (.flag 9, 1), (.flag 8, 1)]),
   ([0x27F2], [(.d, 0x1), (.flag 11, 0), (.flag 10, 1), (.flag 9, 1), (.flag 8, 0)], [(.d, 0xFFFF), (.flag 11, 1), (.flag 10, 0), (.flag 9, 0), (.flag 8, 1)]),
   ([0x2772], [(.e, 0x0), (.flag 11, 1), (.flag 10, 0), (.flag 9, 1), (.flag 8, 1)], [(.e, 0x0), (.flag 11, 0), (.flag 10, 1), (.flag 9, 0), (.flag 8, 0)]),
   ([0x2732, 0x0300], [(.word 0x300, 0x8000), (.flag 11, 0), (.flag 10, 1), (.flag 9, 0), (.flag 8, 0)], [(.word 0x300, 0x8000), (.flag 11, 1), (.flag 10, 0), (.flag 9, 1), (.flag 8, 1)]),
   ([0x2732, 0x0300], [(.word 0x300, 0xFFFF), (.flag 11, 1), (.flag 10, 1), (.flag 9, 1), (.flag 8, 0)], [(.word 0x300, 0x1), (.flag 11, 0), (.flag 10, 0), (.flag 9, 0), (.flag 8, 1)])]

theorem test_vectors_arithmetic_4 : vectors_arithmetic_4.all Vec.ok = true := by decide

/-- 95_test_vectors.md V5, part 1. -/
def vectors_multiply_divide : List Vec :=
  [([0x3728], [(.ed, 0x10000), (.ix, 0x3), (.flag 11, 1), (.flag 10, 1), (.flag 9, 1), (.flag 8, 1)], [(.ix, 0x5555), (.d, 0x1), (.flag 11, 0), (.flag 10, 0), (.flag 9, 0), (.flag 8, 0)]),
   ([0x3728], [(.ed, 0xFFFEFFFF), (.ix, 0xFFFF), (.flag 11, 0), (.flag 10, 1), (.flag 9, 1), (.flag 8, 0)], [(.ix, 0xFFFF), (.d, 0xFFFE), (.flag 11, 1), (.flag 10, 0), (.flag 9, 0), (.flag 8, 1)]),
   ([0x3729], [(.ed, 0xFFFFFFF9), (.ix, 0x2), (.flag 11, 0), (.flag 10, 1), (.flag 9, 1), (.flag 8, 0)], [(.ix, 0xFFFD), (.d, 0xFFFF), (.flag 11, 1), (.flag 10, 0), (.flag 9, 0), (.flag 8, 1)]),
   ([0x3729], [(.ed, 0x1), (.ix, 0x2), (.flag 11, 1), (.flag 10, 0), (.flag 9, 1), (.flag 8, 0)], [(.ix, 0x0), (.d, 0x1), (.flag 11, 0), (.flag 10, 1), (.flag 9, 0), (.flag 8, 1)]),
   ([0x3725], [(.e, 0xFFFF), (.d, 0xFFFF), (.flag 11, 0), (.flag 10, 1), (.flag 8, 1), (.flag 9, 1)], [(.ed, 0xFFFE0001), (.flag 11, 1), (.flag 10, 0), (.flag 8, 0), (.flag 9, 1)]),
   ([0x3725], [(.e, 0x0), (.d, 0xFFFF), (.flag 11, 1), (.flag 10, 0), (.flag 8, 1), (.flag 9, 1)], [(.ed, 0x0), (.flag 11, 0), (.flag 10, 1), (.flag 8, 0), (.flag 9, 1)]),
   ([0x3726], [(.e, 0x8000), (.d, 0x8000), (.flag 11, 1), (.flag 10, 1), (.flag 8, 1), (.flag 9, 1)], [(.ed, 0x40000000), (.flag 11, 0), (.flag 10, 0), (.flag 8, 0), (.flag 9, 1)]),
   ([0x3726], [(.e, 0xFFFF), (.d, 0x2), (.flag 11, 0), (.flag 10, 1), (.flag 8, 0), (.flag 9, 1)], [(.ed, 0xFFFFFFFE), (.flag 11, 1), (.flag 10, 0), (.flag 8, 1), (.flag 9, 1)]),
   ([0x372B], [(.d, 0x4000), (.ix, 0x8000), (.flag 10, 1), (.flag 9, 1), (.flag 8, 1), (.flag 11, 1)], [(.ix, 0x8000), (.d, 0x0), (.flag 10, 0), (.flag 9, 0), (.flag 8, 0), (.flag 11, 1)]),
   ([0x372B], [(.d, 0x1234), (.ix, 0x0), (.flag 10, 1), (.flag 9, 0), (.flag 8, 0), (.flag 11, 1)], [(.ix, 0xFFFF), (.flag 10, 0), (.flag 9, 1), (.flag 8, 1), (.flag 11, 1)]),
   ([0x3727], [(.e, 0x4000), (.d, 0x4000), (.flag 11, 1), (.flag 10, 1), (.flag 9, 1), (.flag 8, 1)], [(.ed, 0x20000000), (.flag 11, 0), (.flag 10, 0), (.flag 9, 0), (.flag 8, 0)]),
   ([0x3727], [(.e, 0x8000), (.d, 0x8000), (.flag 11, 0), (.flag 10, 1), (.flag 9, 0), (.flag 8, 1)], [(.ed, 0x80000000), (.flag 11, 1), (.flag 10, 0), (.flag 9, 1), (.flag 8, 0)]),
   ([0x372A], [(.d, 0x64), (.ix, 0x7), (.flag 10, 1), (.flag 9, 1), (.flag 8, 1), (.flag 11, 1)], [(.ix, 0xE), (.d, 0x2), (.flag 10, 0), (.flag 9, 0), (.flag 8, 0), (.flag 11, 1)]),
   ([0x372A], [(.d, 0x5), (.ix, 0xA), (.flag 10, 0), (.flag 9, 1), (.flag 8, 1), (.flag 11, 1)], [(.ix, 0x0), (.d, 0x5), (.flag 10, 1), (.flag 9, 0), (.flag 8, 0), (.flag 11, 1)]),
   ([0x3724], [(.a, 0xFF), (.b, 0xFF), (.flag 8, 1), (.flag 11, 1), (.flag 10, 1), (.flag 9, 1)], [(.d, 0xFE01), (.flag 8, 0), (.flag 11, 1), (.flag 10, 1), (.flag 9, 1)]),
   ([0x3724], [(.a, 0xC), (.b, 0x10), (.flag 8, 0), (.flag 11, 1), (.flag 10, 1), (.flag 9, 1)], [(.d, 0xC0), (.flag 8, 1), (.flag 11, 1), (.flag 10, 1), (.flag 9, 1)]),
   ([0x3728], [(.ed, 0x10000), (.ix, 1), (.flag 9, 0)], [(.e, 1)]),
   ([0x3729], [(.ed, 0x80000000), (.ix, 0xFFFF), (.flag 9, 0)], [(.e, 0x8000)])]

theorem test_vectors_multiply_divide : vectors_multiply_divide.all Vec.ok = true := by decide

/-- 95_test_vectors.md V6, part 1. -/
def vectors_logic_bit : List Vec :=
  [([0x760F], [(.a, 0xF0), (.flag 11, 1), (.flag 10, 0), (.flag 9, 1), (.flag 8, 1)], [(.a, 0x0), (.flag 11, 0), (.flag 10, 1), (.flag 9, 0), (.flag 8, 1)]),
   ([0x7680], [(.a, 0xFF), (.flag 11, 0), (.flag 10, 1), (.flag 9, 1), (.flag 8, 1)], [(.a, 0x80), (.flag 11, 1), (.flag 10, 0), (.flag 9, 0), (.flag 8, 1)]),
   ([0xF618], [(.b, 0x3C), (.flag 11, 1), (.flag 10, 1), (.flag 9, 1), (.flag 8, 1)], [(.b, 0x18), (.flag 11, 0), (.flag 10, 0), (.flag 9, 0), (.flag 8, 1)]),
   ([0x37B6, 0x0FF0], [(.d, 0xFF00), (.flag 11, 1), (.flag 10, 1), (.flag 9, 1), (.flag 8, 1)], [(.d, 0xF00), (.flag 11, 0), (.flag 10, 0), (.flag 9, 0), (.flag 8, 1)]),
   ([0x3736, 0x7FFE], [(.e, 0x8001), (.flag 11, 1), (.flag 10, 0), (.flag 9, 1), (.flag 8, 1)], [(.e, 0x0), (.flag 11, 0), (.flag 10, 1), (.flag 9, 0), (.flag 8, 1)]),
   ([0x74FF], [(.a, 0xFF), (.flag 11, 1), (.flag 10, 0), (.flag 9, 1), (.flag 8, 1)], [(.a, 0x0), (.flag 11, 0), (.flag 10, 1), (.flag 9, 0), (.flag 8, 1)]),
   ([0xF4FF], [(.b, 0x55), (.flag 11, 0), (.flag 10, 1), (.flag 9, 1), (.flag 8, 1)], [(.b, 0xAA), (.flag 11, 1), (.flag 10, 0), (.flag 9, 0), (.flag 8, 1)]),
   ([0x37B4, 0x1234], [(.d, 0x1234), (.flag 11, 1), (.flag 10, 0), (.flag 9, 1), (.flag 8, 1)], [(.d, 0x0), (.flag 11, 0), (.flag 10, 1), (.flag 9, 0), (.flag 8, 1)]),
   ([0x3734, 0xFFFF], [(.e, 0x7FFF), (.flag 11, 0), (.flag 10, 1), (.flag 9, 1), (.flag 8, 1)], [(.e, 0x8000), (.flag 11, 1), (.flag 10, 0), (.flag 9, 0), (.flag 8, 1)]),
   ([0x7700], [(.a, 0x0), (.flag 11, 1), (.flag 10, 0), (.flag 9, 1), (.flag 8, 1)], [(.a, 0x0), (.flag 11, 0), (.flag 10, 1), (.flag 9, 0), (.flag 8, 1)]),
   ([0xF780], [(.b, 0x1), (.flag 11, 0), (.flag 10, 1), (.flag 9, 1), (.flag 8, 1)], [(.b, 0x81), (.flag 11, 1), (.flag 10, 0), (.flag 9, 0), (.flag 8, 1)]),
   ([0x37B7, 0x8000], [(.d, 0x0), (.flag 11, 0), (.flag 10, 1), (.flag 9, 1), (.flag 8, 1)], [(.d, 0x8000), (.flag 11, 1), (.flag 10, 0), (.flag 9, 0), (.flag 8, 1)]),
   ([0x3737, 0xFF00], [(.e, 0xFF), (.flag 11, 0), (.flag 10, 1), (.flag 9, 1), (.flag 8, 1)], [(.e, 0xFFFF), (.flag 11, 1), (.flag 10, 0), (.flag 9, 0), (.flag 8, 1)]),
   ([0x7980], [(.a, 0x80), (.flag 11, 0), (.flag 10, 1), (.flag 9, 1), (.flag 8, 1)], [(.flag 11, 1), (.flag 10, 0), (.flag 9, 0), (.flag 8, 1)]),
   ([0xF9F0], [(.b, 0xF), (.flag 11, 1), (.flag 10, 0), (.flag 9, 1), (.flag 8, 1)], [(.flag 11, 0), (.flag 10, 1), (.flag 9, 0), (.flag 8, 1)]),
   ([0x380F, 0x0300], [(.byte 0x300, 0xFF), (.ek, 0x0), (.flag 11, 0), (.flag 10, 1), (.flag 9, 1)], [(.byte 0x300, 0xF0), (.flag 11, 1), (.flag 10, 0), (.flag 9, 0)]),
   ([0x1708, 0xFF04], [(.xkix, 0x2000), (.byte 0x2004, 0xA5), (.flag 11, 1), (.flag 10, 0), (.flag 9, 1)], [(.byte 0x2004, 0x0), (.flag 11, 0), (.flag 10, 1), (.flag 9, 0)]),
   ([0x2738, 0x0300, 0x00FF], [(.word 0x300, 0x1234), (.flag 11, 1), (.flag 10, 1), (.flag 9, 1)], [(.word 0x300, 0x1200), (.flag 11, 0), (.flag 10, 0), (.flag 9, 0)]),
   ([0x3980, 0x0300], [(.byte 0x300, 0x1), (.flag 11, 0), (.flag 10, 1), (.flag 9, 1)], [(.byte 0x300, 0x81), (.flag 11, 1), (.flag 10, 0), (.flag 9, 0)]),
   ([0x1729, 0x0002], [(.zkiz, 0x400), (.byte 0x402, 0x0), (.flag 11, 1), (.flag 10, 0), (.flag 9, 1)], [(.byte 0x402, 0x0), (.flag 11, 0), (.flag 10, 1), (.flag 9, 0)]),
   ([0x2739, 0x0300, 0x8000], [(.word 0x300, 0x0), (.flag 11, 0), (.flag 10, 1), (.flag 9, 1)], [(.word 0x300, 0x8000), (.flag 11, 1), (.flag 10, 0), (.flag 9, 0)])]

theorem test_vectors_logic_bit : vectors_logic_bit.all Vec.ok = true := by decide

/-- 95_test_vectors.md V7, part 1. -/
def vectors_shift_rotate_1 : List Vec :=
  [([0x173F, 0x0300], [(.byte 0x300, 0x81), (.flag 11, 1), (.flag 10, 1), (.flag 9, 0), (.flag 8, 0)], [(.byte 0x300, 0x40), (.flag 11, 0), (.flag 10, 0), (.flag 9, 1), (.flag 8, 1)]),
   ([0x370F], [(.a, 0x80), (.flag 11, 1), (.flag 10, 1), (.flag 9, 1), (.flag 8, 1)], [(.a, 0x40), (.flag 11, 0), (.flag 10, 0), (.flag 9, 0), (.flag 8, 0)]),
   ([0x370F], [(.a, 0x1), (.flag 11, 1), (.flag 10, 0), (.flag 9, 0), (.flag 8, 0)], [(.a, 0x0), (.flag 11, 0), (.flag 10, 1), (.flag 9, 1), (.flag 8, 1)]),
   ([0x371F], [(.b, 0x2), (.flag 11, 1), (.flag 10, 1), (.flag 9, 1), (.flag 8, 1)], [(.b, 0x1), (.flag 11, 0), (.flag 10, 0), (.flag 9, 0), (.flag 8, 0)]),
   ([0x27FF], [(.d, 0x8000), (.flag 11, 1), (.flag 10, 1), (.flag 9, 1), (.flag 8, 1)], [(.d, 0x4000), (.flag 11, 0), (.flag 10, 0), (.flag 9, 0), (.flag 8, 0)]),
   ([0x27FF], [(.d, 0x1), (.flag 11, 1), (.flag 10, 0), (.flag 9, 0), (.flag 8, 0)], [(.d, 0x0), (.flag 11, 0), (.flag 10, 1), (.flag 9, 1), (.flag 8, 1)]),
   ([0x277F], [(.e, 0x8000), (.flag 11, 1), (.flag 10, 1), (.flag 9, 1), (.flag 8, 1)], [(.e, 0x4000), (.flag 11, 0), (.flag 10, 0), (.flag 9, 0), (.flag 8, 0)]),
   ([0x273F, 0x0300], [(.word 0x300, 0x1), (.flag 11, 1), (.flag 10, 0), (.flag 9, 0), (.flag 8, 0)], [(.word 0x300, 0x0), (.flag 11, 0), (.flag 10, 1), (.flag 9, 1), (.flag 8, 1)]),
   ([0x1734, 0x0300], [(.byte 0x300, 0x81), (.flag 11, 1), (.flag 10, 1), (.flag 9, 0), (.flag 8, 0)], [(.byte 0x300, 0x2), (.flag 11, 0), (.flag 10, 0), (.flag 9, 1), (.flag 8, 1)]),
   ([0x3704], [(.a, 0x80), (.flag 11, 1), (.flag 10, 0), (.flag 9, 0), (.flag 8, 0)], [(.a, 0x0), (.flag 11, 0), (.flag 10, 1), (.flag 9, 1), (.flag 8, 1)]),
   ([0x3704], [(.a, 0x1), (.flag 11, 1), (.flag 10, 1), (.flag 9, 1), (.flag 8, 1)], [(.a, 0x2), (.flag 11, 0), (.flag 10, 0), (.flag 9, 0), (.flag 8, 0)]),
   ([0x3714], [(.b, 0x7F), (.flag 11, 0), (.flag 10, 1), (.flag 9, 0), (.flag 8, 1)], [(.b, 0xFE), (.flag 11, 1), (.flag 10, 0), (.flag 9, 1), (.flag 8, 0)]),
   ([0x27F4], [(.d, 0x8000), (.flag 11, 1), (.flag 10, 0), (.flag 9, 0), (.flag 8, 0)], [(.d, 0x0), (.flag 11, 0), (.flag 10, 1), (.flag 9, 1), (.flag 8, 1)]),
   ([0x27F4], [(.d, 0x1), (.flag 11, 1), (.flag 10, 1), (.flag 9, 1), (.flag 8, 1)], [(.d, 0x2), (.flag 11, 0), (.flag 10, 0), (.flag 9, 0), (.flag 8, 0)]),
   ([0x2774], [(.e, 0x4000), (.flag 11, 0), (.flag 10, 1), (.flag 9, 0), (.flag 8, 1)], [(.e, 0x8000), (.flag 11, 1), (.flag 10, 0), (.flag 9, 1), (.flag 8, 0)]),
   ([0x2734, 0x0300], [(.word 0x300, 0xC000), (.flag 11, 0), (.flag 10, 1), (.flag 9, 1), (.flag 8, 0)], [(.word 0x300, 0x8000), (.flag 11, 1), (.flag 10, 0), (.flag 9, 0), (.flag 8, 1)]),
   ([0x173D, 0x0300], [(.byte 0x300, 0x81), (.flag 11, 0), (.flag 10, 1), (.flag 9, 1), (.flag 8, 0)], [(.byte 0x300, 0xC0), (.flag 11, 1), (.flag 10, 0), (.flag 9, 0), (.flag 8, 1)]),
   ([0x370D], [(.a, 0x80), (.flag 11, 0), (.flag 10, 1), (.flag 9, 0), (.flag 8, 1)], [(.a, 0xC0), (.flag 11, 1), (.flag 10, 0), (.flag 9, 1), (.flag 8, 0)]),
   ([0x370D], [(.a, 0x1), (.flag 11, 1), (.flag 10, 0), (.flag 9, 0), (.flag 8, 0)], [(.a, 0x0), (.flag 11, 0), (.flag 10, 1), (.flag 9, 1), (.flag 8, 1)]),
   ([0x371D], [(.b, 0x7F), (.flag 11, 1), (.flag 10, 1), (.flag 9, 0), (.flag 8, 0)], [(.b, 0x3F), (.flag 11, 0), (.flag 10, 0), (.flag 9, 1), (.flag 8, 1)]),
   ([0x27FD], [(.d, 0x8000), (.flag 11, 0), (.flag 10, 1), (.flag 9, 0), (.flag 8, 1)], [(.d, 0xC000), (.flag 11, 1), (.flag 10, 0), (.flag 9, 1), (.flag 8, 0)]),
   ([0x27FD], [(.d, 0x1), (.flag 11, 1), (.flag 10, 0), (.flag 9, 0), (.flag 8, 0)], [(.d, 0x0), (.flag 11, 0), (.flag 10, 1), (.flag 9, 1), (.flag 8, 1)]),
   ([0x277D], [(.e, 0xFFFF), (.flag 11, 0), (.flag 10, 1), (.flag 9, 1), (.flag 8, 0)], [(.e, 0xFFFF), (.flag 11, 1), (.flag 10, 0), (.flag 9, 0), (.flag 8, 1)]),
   ([0x273D, 0x0300], [(.word 0x300, 0x8001), (.flag 11, 0), (.flag 10, 1), (.flag 9, 1), (.flag 8, 0)], [(.word 0x300, 0xC000), (.flag 11, 1), (.flag 10, 0), (.flag 9, 0), (.flag 8, 1)])]

theorem test_vectors_shift_rotate_1 : vectors_shift_rotate_1.all Vec.ok = true := by decide

/-- 95_test_vectors.md V7, part 2. -/
def vectors_shift_rotate_2 : List Vec :=
  [([0x173C, 0x0300], [(.byte 0x300, 0x80), (.flag 8, 1), (.flag 11, 1), (.flag 10, 1), (.flag 9, 0)], [(.byte 0x300, 0x1), (.flag 11, 0), (.flag 10, 0), (.flag 9, 1), (.flag 8, 1)]),
   ([0x370C], [(.a, 0x80), (.flag 8, 0), (.flag 11, 1), (.flag 10, 0), (.flag 9, 0)], [(.a, 0x0), (.flag 11, 0), (.flag 10, 1), (.flag 9, 1), (.flag 8, 1)]),
   ([0x370C], [(.a, 0x1), (.flag 8, 0), (.flag 11, 1), (.flag 10, 1), (.flag 9, 1)], [(.a, 0x2), (.flag 11, 0), (.flag 10, 0), (.flag 9, 0), (.flag 8, 0)]),
   ([0x371C], [(.b, 0x0), (.flag 8, 1), (.flag 11, 1), (.flag 10, 1), (.flag 9, 1)], [(.b, 0x1), (.flag 11, 0), (.flag 10, 0), (.flag 9, 0), (.flag 8, 0)]),
   ([0x27FC], [(.d, 0x8000), (.flag 8, 0), (.flag 11, 1), (.flag 10, 0), (.flag 9, 0)], [(.d, 0x0), (.flag 11, 0), (.flag 10, 1), (.flag 9, 1), (.flag 8, 1)]),
   ([0x27FC], [(.d, 0x1), (.flag 8, 1), (.flag 11, 1), (.flag 10, 1), (.flag 9, 1)], [(.d, 0x3), (.flag 11, 0), (.flag 10, 0), (.flag 9, 0), (.flag 8, 0)]),
   ([0x277C], [(.e, 0x8000), (.flag 8, 0), (.flag 11, 1), (.flag 10, 0), (.flag 9, 0)], [(.e, 0x0), (.flag 11, 0), (.flag 10, 1), (.flag 9, 1), (.flag 8, 1)]),
   ([0x273C, 0x0300], [(.word 0x300, 0x7FFF), (.flag 8, 1), (.flag 11, 0), (.flag 10, 1), (.flag 9, 0)], [(.word 0x300, 0xFFFF), (.flag 11, 1), (.flag 10, 0), (.flag 9, 1), (.flag 8, 0)]),
   ([0x173E, 0x0300], [(.byte 0x300, 0x1), (.flag 8, 1), (.flag 11, 0), (.flag 10, 1), (.flag 9, 1)], [(.byte 0x300, 0x80), (.flag 11, 1), (.flag 10, 0), (.flag 9, 0), (.flag 8, 1)]),
   ([0x370E], [(.a, 0x80), (.flag 8, 0), (.flag 11, 1), (.flag 10, 1), (.flag 9, 1)], [(.a, 0x40), (.flag 11, 0), (.flag 10, 0), (.flag 9, 0), (.flag 8, 0)]),
   ([0x370E], [(.a, 0x1), (.flag 8, 0), (.flag 11, 1), (.flag 10, 0), (.flag 9, 0)], [(.a, 0x0), (.flag 11, 0), (.flag 10, 1), (.flag 9, 1), (.flag 8, 1)]),
   ([0x371E], [(.b, 0x0), (.flag 8, 1), (.flag 11, 0), (.flag 10, 1), (.flag 9, 0)], [(.b, 0x80), (.flag 11, 1), (.flag 10, 0), (.flag 9, 1), (.flag 8, 0)]),
   ([0x27FE], [(.d, 0x8000), (.flag 8, 0), (.flag 11, 1), (.flag 10, 1), (.flag 9, 1)], [(.d, 0x4000), (.flag 11, 0), (.flag 10, 0), (.flag 9, 0), (.flag 8, 0)]),
   ([0x27FE], [(.d, 0x1), (.flag 8, 1), (.flag 11, 0), (.flag 10, 1), (.flag 9, 1)], [(.d, 0x8000), (.flag 11, 1), (.flag 10, 0), (.flag 9, 0), (.flag 8, 1)]),
   ([0x277E], [(.e, 0x1), (.flag 8, 0), (.flag 11, 1), (.flag 10, 0), (.flag 9, 0)], [(.e, 0x0), (.flag 11, 0), (.flag 10, 1), (.flag 9, 1), (.flag 8, 1)]),
   ([0x273E, 0x0300], [(.word 0x300, 0x0), (.flag 8, 1), (.flag 11, 0), (.flag 10, 1), (.flag 9, 0)], [(.word 0x300, 0x8000), (.flag 11, 1), (.flag 10, 0), (.flag 9, 1), (.flag 8, 0)])]

theorem test_vectors_shift_rotate_2 : vectors_shift_rotate_2.all Vec.ok = true := by decide

/-- 95_test_vectors.md V8, part 1. -/
def vectors_program_control_1 : List Vec :=
  [([0xB0FA], [(.ia, 0x114)], [(.ia, 0x114)]),
   ([0xB6F2], [(.ia, 0x10E), (.flag 10, 0)], [(.ia, 0x106)]),
   ([0xB6F2], [(.ia, 0x10E), (.flag 10, 1)], [(.ia, 0x110)]),
   ([0xB77F], [(.ia, 0x200), (.flag 10, 1)], [(.ia, 0x284)]),
   ([0xB0FF], [(.ia, 0x200)], [(.ia, 0x204)]),
   ([0xB010], [(.ia, 0xFFF8)], [(.ia, 0x1000E), (.ccr, 1)]),
   ([0x3780, 0x8000], [(.ia, 0x10000)], [(.ia, 0x8006)]),
   ([0x3787, 0x0100], [(.ia, 0x300), (.flag 10, 0)], [(.ia, 0x304)]),
   ([0x3785, 0x7FFE], [(.ia, 0x300), (.flag 8, 1)], [(.ia, 0x8304)]),
   ([0xB000], [(.ia, 0xFFFFC)], [(.ia, 0x00002)]),
   ([0xCB0F, 0x0410], [(.ia, 0x300), (.ix, 0x2000), (.byte 0x2004, 0xF0)], [(.ia, 0x316)]),
   ([0xCB0F, 0x0410], [(.ia, 0x300), (.ix, 0x2000), (.byte 0x2004, 0xF1)], [(.ia, 0x304)]),
   ([0x3B81, 0x0100, 0x0020], [(.ia, 0x300), (.byte 0x100, 0x81)], [(.ia, 0x326)]),
   ([0x3B81, 0x0100, 0x0020], [(.ia, 0x300), (.byte 0x100, 0x80)], [(.ia, 0x306)]),
   ([0x9B00, 0x00FC], [(.ia, 0x300)], [(.ia, 0x302)]),
   ([0x7A01, 0x2345], [], [(.ia, 0x12344), (.ccr, 1)]),
   ([0x5B00, 0x8000], [(.iy, 0x8000), (.yk, 7)], [(.ia, 0x10000)]),
   ([0x3790, 0x0010], [(.ia, 0x300), (.flag 14, 1)], [(.ia, 0x316)]),
   ([0x3791, 0x0010], [(.ia, 0x300), (.flag 12, 1)], [(.ia, 0x316)]),
   ([0xFA02, 0x3456], [(.ccr, 0x8000), (.ia, 0x10000), (.sksp, 0x800)], [(.ia, 0x23456), (.sksp, 0x7FC), (.word 0x800, 6), (.word 0x7FE, 0x8001), (.ccr, 0x8002)]),
   ([0x27F7], [(.ccr, 0x04E2), (.sksp, 0x7FC), (.word 0x7FE, 0x8001), (.word 0x800, 6)], [(.ia, 0x10004), (.sksp, 0x800), (.ccr, 0x04E1)]),
   ([0x3620], [(.ccr, 0x00E0), (.ia, 0x500), (.sksp, 0x7FFE)], [(.ia, 0x524), (.sksp, 0x7FFA), (.word 0x7FFE, 0x0504), (.word 0x7FFC, 0x00E0)]),
   ([0x36FC], [(.ia, 0xFFFE), (.sksp, 0x1000)], [(.ia, 0xFFFE), (.word 0x1000, 2), (.word 0xFFE, 1)]),
   ([0x27F9, 0x0100], [(.ia, 0x600), (.sksp, 0x1000)], [(.ia, 0x706), (.sksp, 0xFFC), (.word 0x1000, 0x606)])]

theorem test_vectors_program_control_1 : vectors_program_control_1.all Vec.ok = true := by decide

/-- 95_test_vectors.md V8, part 2. -/
def vectors_program_control_2 : List Vec :=
  [([0x8900, 0x0000], [(.ia, 0x2FFFC), (.ix, 0x4000), (.sksp, 0x10000)], [(.ia, 0x4000), (.sksp, 0xFFFC), (.word 0x10000, 2), (.word 0xFFFE, 3)]),
   ([0x3720], [(.ia, 0x10200), (.sksp, 0x2000), (.word 0xC, 0x4000)], [(.ia, 0x4000), (.sksp, 0x1FFC), (.word 0x2000, 0x208), (.word 0x1FFE, 1), (.ccr, 0)]),
   ([0x2777], [(.sksp, 0xFFC), (.word 0xFFE, 0x00E2), (.word 0x1000, 0x1006)], [(.ia, 0x21000), (.ccr, 0x00E2), (.sksp, 0x1000)]),
   ([0x2777], [(.sksp, 0xFFC), (.word 0xFFE, 1), (.word 0x1000, 4)], [(.ia, 0xFFFE)])]

theorem test_vectors_program_control_2 : vectors_program_control_2.all Vec.ok = true := by decide

/-- 95_test_vectors.md V9, part 1. -/
def vectors_index_stack_ccr_1 : List Vec :=
  [([0x374F], [(.xkix, 0xFFF0), (.b, 0x20), (.flag 13, 1), (.flag 11, 1), (.flag 10, 1), (.flag 9, 1), (.flag 8, 1), (.flag 14, 1), (.flag 12, 1)], [(.xkix, 0x10010), (.flag 13, 1), (.flag 11, 1), (.flag 10, 1), (.flag 9, 1), (.flag 8, 1), (.flag 14, 1), (.flag 12, 1)]),
   ([0x374F], [(.xkix, 0xFFFFF), (.b, 0x1), (.flag 13, 1), (.flag 11, 1), (.flag 10, 1), (.flag 9, 1), (.flag 8, 1), (.flag 14, 1), (.flag 12, 1)], [(.xkix, 0x0), (.flag 13, 1), (.flag 11, 1), (.flag 10, 1), (.flag 9, 1), (.flag 8, 1), (.flag 14, 1), (.flag 12, 1)]),
   ([0x37CD], [(.xkix, 0x10000), (.d, 0xFFFF), (.flag 13, 1), (.flag 11, 1), (.flag 10, 1), (.flag 9, 1), (.flag 8, 1), (.flag 14, 1), (.flag 12, 1)], [(.xkix, 0xFFFF), (.flag 13, 1), (.flag 11, 1), (.flag 10, 1), (.flag 9, 1), (.flag 8, 1), (.flag 14, 1), (.flag 12, 1)]),
   ([0x374D], [(.xkix, 0x8000), (.e, 0x8000), (.flag 13, 1), (.flag 11, 1), (.flag 10, 1), (.flag 9, 1), (.flag 8, 1), (.flag 14, 1), (.flag 12, 1)], [(.xkix, 0x0), (.flag 13, 1), (.flag 11, 1), (.flag 10, 1), (.flag 9, 1), (.flag 8, 1), (.flag 14, 1), (.flag 12, 1)]),
   ([0x3CFF], [(.xkix, 0x1), (.flag 10, 0)], [(.xkix, 0x0), (.flag 10, 1)]),
   ([0x3CFF], [(.xkix, 0x10000), (.flag 10, 1)], [(.xkix, 0xFFFF), (.flag 10, 0)]),
   ([0x373D, 0x1000], [(.ykiy, 0x2F800), (.flag 10, 1)], [(.ykiy, 0x30800), (.flag 10, 0)]),
   ([0x373E, 0x8000], [(.zkiz, 0x10000), (.flag 10, 1)], [(.zkiz, 0x8000), (.flag 10, 0)]),
   ([0x377C, 0x1000], [(.ix, 0xFFF), (.flag 11, 0), (.flag 10, 1), (.flag 9, 1), (.flag 8, 0)], [(.flag 11, 1), (.flag 10, 0), (.flag 9, 0), (.flag 8, 1)]),
   ([0x37BC, 0x8000], [(.xk, 0x3), (.flag 11, 0), (.flag 10, 1), (.flag 9, 1)], [(.ix, 0x8000), (.xk, 0x3), (.flag 11, 1), (.flag 10, 0), (.flag 9, 0)]),
   ([0x17BC, 0x0302], [(.ix, 0x0), (.ek, 0x0), (.flag 11, 1), (.flag 10, 0), (.flag 9, 1)], [(.word 0x302, 0x0), (.flag 11, 0), (.flag 10, 1), (.flag 9, 0)]),
   ([0x274F], [(.sksp, 0xFFFE), (.flag 13, 1), (.flag 11, 1), (.flag 10, 1), (.flag 9, 1), (.flag 8, 1), (.flag 14, 1), (.flag 12, 1)], [(.xkix, 0x10000), (.flag 13, 1), (.flag 11, 1), (.flag 10, 1), (.flag 9, 1), (.flag 8, 1), (.flag 14, 1), (.flag 12, 1)]),
   ([0x374E], [(.xkix, 0x10000), (.flag 13, 1), (.flag 11, 1), (.flag 10, 1), (.flag 9, 1), (.flag 8, 1), (.flag 14, 1), (.flag 12, 1)], [(.sksp, 0xFFFE), (.flag 13, 1), (.flag 11, 1), (.flag 10, 1), (.flag 9, 1), (.flag 8, 1), (.flag 14, 1), (.flag 12, 1)]),
   ([0x275C], [(.xkix, 0x31234), (.ykiy, 0x0), (.flag 13, 1), (.flag 11, 1), (.flag 10, 1), (.flag 9, 1), (.flag 8, 1), (.flag 14, 1), (.flag 12, 1)], [(.ykiy, 0x31234), (.flag 13, 1), (.flag 11, 1), (.flag 10, 1), (.flag 9, 1), (.flag 8, 1), (.flag 14, 1), (.flag 12, 1)]),
   ([0x37CC], [(.d, 0x1234), (.ix, 0xABCD), (.xk, 0x5), (.flag 13, 1), (.flag 11, 1), (.flag 10, 1), (.flag 9, 1), (.flag 8, 1), (.flag 14, 1), (.flag 12, 1)], [(.d, 0xABCD), (.ix, 0x1234), (.xk, 0x5), (.flag 13, 1), (.flag 11, 1), (.flag 10, 1), (.flag 9, 1), (.flag 8, 1), (.flag 14, 1), (.flag 12, 1)]),
   ([0x375C], [(.e, 0x1), (.iy, 0xFFFF), (.flag 13, 1), (.flag 11, 1), (.flag 10, 1), (.flag 9, 1), (.flag 8, 1), (.flag 14, 1), (.flag 12, 1)], [(.e, 0xFFFF), (.iy, 0x1), (.flag 13, 1), (.flag 11, 1), (.flag 10, 1), (.flag 9, 1), (.flag 8, 1), (.flag 14, 1), (.flag 12, 1)]),
   ([0x27FA], [(.b, 0xA5), (.flag 13, 1), (.flag 11, 1), (.flag 10, 1), (.flag 9, 1), (.flag 8, 1), (.flag 14, 1), (.flag 12, 1)], [(.ek, 0x5), (.flag 13, 1), (.flag 11, 1), (.flag 10, 1), (.flag 9, 1), (.flag 8, 1), (.flag 14, 1), (.flag 12, 1)]),
   ([0x379F], [(.b, 0xF), (.flag 13, 1), (.flag 11, 1), (.flag 10, 1), (.flag 9, 1), (.flag 8, 1), (.flag 14, 1), (.flag 12, 1)], [(.sk, 0xF), (.flag 13, 1), (.flag 11, 1), (.flag 10, 1), (.flag 9, 1), (.flag 8, 1), (.flag 14, 1), (.flag 12, 1)]),
   ([0x27BB], [(.ek, 0x3), (.b, 0x0), (.flag 13, 1), (.flag 11, 1), (.flag 10, 1), (.flag 9, 1), (.flag 8, 1), (.flag 14, 1), (.flag 12, 1)], [(.b, 0x3), (.flag 13, 1), (.flag 11, 1), (.flag 10, 1), (.flag 9, 1), (.flag 8, 1), (.flag 14, 1), (.flag 12, 1)]),
   ([0x37AC], [(.xk, 0xC), (.b, 0xFF), (.flag 13, 1), (.flag 11, 1), (.flag 10, 1), (.flag 9, 1), (.flag 8, 1), (.flag 14, 1), (.flag 12, 1)], [(.b, 0xC), (.flag 13, 1), (.flag 11, 1), (.flag 10, 1), (.flag 9, 1), (.flag 8, 1), (.flag 14, 1), (.flag 12, 1)]),
   ([0x3FFC], [(.sksp, 0x10002), (.flag 13, 1), (.flag 11, 1), (.flag 10, 1), (.flag 9, 1), (.flag 8, 1), (.flag 14, 1), (.flag 12, 1)], [(.sksp, 0xFFFE), (.flag 13, 1), (.flag 11, 1), (.flag 10, 1), (.flag 9, 1), (.flag 8, 1), (.flag 14, 1), (.flag 12, 1)]),
   ([0x377F, 0x8000], [(.sp, 0x7FFF), (.flag 11, 0), (.flag 10, 1), (.flag 9, 0), (.flag 8, 0)], [(.flag 11, 1), (.flag 10, 0), (.flag 9, 1), (.flag 8, 1)]),
   ([0x37BF, 0x03FE], [(.sk, 0x1), (.flag 11, 1), (.flag 10, 1), (.flag 9, 1)], [(.sp, 0x3FE), (.sk, 0x1), (.flag 11, 0), (.flag 10, 0), (.flag 9, 0)]),
   ([0x373A, 0xFF1F], [(.ccr, 0x85E3)], [(.ccr, 0x8503)])]

theorem test_vectors_index_stack_ccr_1 : vectors_index_stack_ccr_1.all Vec.ok = true := by decide

/-- 95_test_vectors.md V9, part 2. -/
def vectors_index_stack_ccr_2 : List Vec :=
  [([0x373A, 0x0000], [(.ccr, 0xFFFF)], [(.ccr, 0xF)]),
   ([0x373B, 0x00E0], [(.ccr, 0x3)], [(.ccr, 0xE3)]),
   ([0x373B, 0xFFFF], [(.ccr, 0x2)], [(.ccr, 0xFFF2)]),
   ([0x37FD], [(.a, 0x81), (.ccr, 0xE0)], [(.ccr, 0x81E0)]),
   ([0x372D], [(.d, 0x1EF), (.ccr, 0x8002)], [(.ccr, 0x1E2)]),
   ([0x37FC], [(.ccr, 0x85E3)], [(.a, 0x85)]),
   ([0x372C], [(.ccr, 0x85E3)], [(.d, 0x85E3)]),
   ([0x3708], [(.sksp, 0x7FE), (.a, 0x5A)], [(.byte 0x7FF, 0x5A), (.sksp, 0x7FD)]),
   ([0x3718], [(.sksp, 0x7FD), (.b, 0xA5)], [(.byte 0x7FE, 0xA5), (.sksp, 0x7FC)]),
   ([0x3719], [(.sksp, 0x7FC), (.byte 0x7FE, 0xA5)], [(.b, 0xA5), (.sksp, 0x7FD)]),
   ([0x3709], [(.sksp, 0x7FD), (.byte 0x7FF, 0x5A)], [(.a, 0x5A), (.sksp, 0x7FE)]),
   ([0x3445], [(.ccr, 0xE0), (.sksp, 0x800), (.d, 0x1122), (.ix, 0x3344)], [(.word 0x800, 0x1122), (.word 0x7FE, 0x3344), (.word 0x7FC, 0xE0), (.sksp, 0x7FA)]),
   ([0x347F], [(.ccr, 0x80E0), (.sksp, 0x1000), (.d, 1), (.e, 2), (.ix, 3), (.iy, 4), (.iz, 5), (.k, 0x6789)], [(.word 0x1000, 1), (.word 0xFFE, 2), (.word 0xFFC, 3), (.word 0xFFA, 4), (.word 0xFF8, 5), (.word 0xFF6, 0x6789), (.word 0xFF4, 0x80E0), (.sksp, 0xFF2)]),
   ([0x3551], [(.ccr, 3), (.sksp, 0x7FA), (.word 0x7FC, 0xE0), (.word 0x7FE, 0x3344), (.word 0x800, 0x1122)], [(.ccr, 0xE3), (.ix, 0x3344), (.d, 0x1122), (.sksp, 0x800)]),
   ([0x357F], [(.ccr, 2), (.sksp, 0xFF2), (.word 0x1000, 1), (.word 0xFFE, 2), (.word 0xFFC, 3), (.word 0xFFA, 4), (.word 0xFF8, 5), (.word 0xFF6, 0x6789), (.word 0xFF4, 0x80E0)], [(.d, 1), (.e, 2), (.ix, 3), (.iy, 4), (.iz, 5), (.k, 0x6789), (.ccr, 0x80E2), (.sksp, 0x1000)]),
   ([0x274C], [(.ia, 0x300)], [(.ia, 0x302)]),
   ([0x37A6], [(.ia, 0x300), (.sksp, 0x800), (.word 0xE, 0x500)], [(.ia, 0x500), (.word 0x800, 0x308)])]

theorem test_vectors_index_stack_ccr_2 : vectors_index_stack_ccr_2.all Vec.ok = true := by decide

/-- 95_test_vectors.md V10, part 1. -/
def vectors_mac_unit_1 : List Vec :=
  [([0x3722], [(.am, 0x7FFF0000), (.e, 0x1), (.flag 14, 0), (.sl, 0x0), (.flag 12, 0)], [(.am, 0x80000000), (.flag 14, 0), (.flag 12, 1), (.sl, 0x0)]),
   ([0x3722], [(.am, 0x1234), (.e, 0x8000), (.flag 14, 0), (.sl, 0x0), (.flag 12, 1)], [(.am, 0xF80001234), (.flag 14, 0), (.flag 12, 0), (.sl, 0x0)]),
   ([0x3723], [(.ed, 0x1), (.am, 0x7FFFFFFFF), (.flag 14, 0), (.sl, 0x0), (.flag 12, 0)], [(.am, 0x800000000), (.flag 14, 1), (.flag 12, 1), (.sl, 0x1)]),
   ([0x3723], [(.ed, 0x80000000), (.am, 0x0), (.flag 14, 0), (.sl, 0x0), (.flag 12, 1)], [(.am, 0xF80000000), (.flag 14, 0), (.flag 12, 0), (.sl, 0x0)]),
   ([0x27B6], [(.am, 0x40000000), (.flag 14, 0), (.sl, 0x0), (.flag 8, 1), (.flag 11, 1), (.flag 12, 0)], [(.am, 0x80000000), (.flag 8, 0), (.flag 11, 0), (.flag 14, 0), (.flag 12, 1), (.sl, 0x0)]),
   ([0x27B6], [(.am, 0xFC0000000), (.flag 14, 0), (.sl, 0x0), (.flag 8, 0), (.flag 11, 0), (.flag 12, 1)], [(.am, 0xF80000000), (.flag 8, 1), (.flag 11, 1), (.flag 14, 0), (.flag 12, 0), (.sl, 0x0)]),
   ([0x27BA], [(.am, 0xF00000001), (.flag 8, 0), (.flag 11, 0), (.flag 12, 1)], [(.am, 0xF80000000), (.flag 8, 1), (.flag 11, 1), (.flag 12, 0), (.sl, 0x0)]),
   ([0x27BA], [(.am, 0x80000000), (.flag 8, 1), (.flag 11, 1), (.flag 12, 1)], [(.am, 0x40000000), (.flag 8, 0), (.flag 11, 0), (.flag 12, 0), (.sl, 0x0)]),
   ([0x27B7], [(.am, 0x812345678), (.flag 14, 1), (.flag 12, 1), (.sl, 0x1)], [(.am, 0x0), (.flag 14, 0), (.flag 12, 0), (.sl, 0x1)]),
   ([0x27B0], [(.xkix, 0x10100), (.ykiy, 0x20200), (.word 0x10100, 0x4000), (.word 0x20200, 0xC000), (.flag 13, 1), (.flag 11, 1), (.flag 10, 1), (.flag 9, 1), (.flag 8, 1), (.flag 14, 1), (.flag 12, 1)], [(.hr, 0x4000), (.ir, 0xC000), (.flag 13, 1), (.flag 11, 1), (.flag 10, 1), (.flag 9, 1), (.flag 8, 1), (.flag 14, 1), (.flag 12, 1)]),
   ([0x7B00], [(.hr, 0x4000), (.ir, 0x4000), (.am, 0x0), (.flag 14, 0), (.sl, 0x0), (.flag 9, 1), (.flag 12, 1)], [(.ed, 0x20000000), (.am, 0x20000000), (.flag 9, 0), (.flag 14, 0), (.flag 12, 0), (.sl, 0x0)]),
   ([0x7B00], [(.hr, 0x8000), (.ir, 0x8000), (.am, 0x780000000), (.flag 14, 0), (.sl, 0x0), (.flag 9, 0), (.flag 12, 0)], [(.ed, 0x80000000), (.am, 0x800000000), (.flag 9, 1), (.flag 14, 1), (.flag 12, 1), (.sl, 0x1)]),
   ([0x27B4], [(.am, 0x12348000), (.flag 14, 0), (.flag 12, 0), (.sl, 0x0), (.flag 4, 0), (.flag 11, 1), (.flag 10, 1)], [(.e, 0x1234), (.flag 14, 0), (.flag 12, 0), (.sl, 0x0), (.flag 11, 0), (.flag 10, 0)]),
   ([0x27B4], [(.am, 0x7FFFF8000), (.flag 14, 0), (.flag 12, 1), (.sl, 0x0), (.flag 4, 0), (.flag 11, 1), (.flag 10, 0)], [(.e, 0x0), (.flag 14, 1), (.flag 12, 1), (.sl, 0x1), (.flag 11, 0), (.flag 10, 1)]),
   ([0x27B5], [(.am, 0xC0001234), (.flag 14, 0), (.flag 12, 1), (.sl, 0x0), (.flag 4, 0), (.flag 11, 0), (.flag 10, 1)], [(.e, 0xC000), (.flag 11, 1), (.flag 10, 0), (.flag 12, 1)]),
   ([0x27B5], [(.am, 0x12349999), (.flag 14, 0), (.flag 12, 0), (.sl, 0x0), (.flag 4, 1), (.flag 11, 1), (.flag 10, 1)], [(.e, 0x1234), (.flag 11, 0), (.flag 10, 0), (.flag 12, 0)]),
   ([0x372F], [(.d, 0x70F), (.flag 13, 1), (.flag 11, 1), (.flag 10, 1), (.flag 9, 1), (.flag 8, 1), (.flag 14, 1), (.flag 12, 1)], [(.xmsk, 0x7), (.ymsk, 0xF), (.flag 13, 1), (.flag 11, 1), (.flag 10, 1), (.flag 9, 1), (.flag 8, 1), (.flag 14, 1), (.flag 12, 1)]),
   ([0x27B1], [(.e, 0x8000), (.d, 0x1), (.flag 14, 1), (.flag 12, 1)], [(.am, 0xF80000001), (.flag 14, 0), (.flag 12, 0)]),
   ([0x27B2], [(.e, 0x8000), (.flag 14, 1), (.flag 12, 1)], [(.am, 0xF80000000), (.flag 14, 0), (.flag 12, 0)]),
   ([0x27B2], [(.e, 0x4000), (.flag 14, 1), (.flag 12, 1)], [(.am, 0x40000000), (.flag 14, 0), (.flag 12, 0)]),
   ([0x27B3], [(.am, 0x9ABCD1234), (.flag 13, 1), (.flag 11, 1), (.flag 10, 1), (.flag 9, 1), (.flag 8, 1), (.flag 14, 1), (.flag 12, 1)], [(.ix, 0xFFF9), (.e, 0xABCD), (.d, 0x1234), (.flag 13, 1), (.flag 11, 1), (.flag 10, 1), (.flag 9, 1), (.flag 8, 1), (.flag 14, 1), (.flag 12, 1)]),
   ([0x27B3], [(.am, 0x3ABCD1234), (.flag 13, 1), (.flag 11, 1), (.flag 10, 1), (.flag 9, 1), (.flag 8, 1), (.flag 14, 1), (.flag 12, 1)], [(.ix, 0x3), (.e, 0xABCD), (.d, 0x1234), (.flag 13, 1), (.flag 11, 1), (.flag 10, 1), (.flag 9, 1), (.flag 8, 1), (.flag 14, 1), (.flag 12, 1)]),
   ([0x7B2E], [(.xmsk, 0x07), (.ix, 0x0106), (.ymsk, 0x00), (.iy, 0x0200), (.hr, 0x1234)], [(.ix, 0x0100), (.iy, 0x01FE), (.iz, 0x1234)]),
   ([0x7B2E], [(.xmsk, 0xFF), (.ix, 0x12FE), (.ymsk, 0x01), (.iy, 0x0001)], [(.ix, 0x1200), (.iy, 0x0001)])]

theorem test_vectors_mac_unit_1 : vectors_mac_unit_1.all Vec.ok = true := by decide

/-- 95_test_vectors.md V10, part 2. -/
def vectors_mac_unit_2 : List Vec :=
  [([0x7B80], [(.xk, 3), (.ix, 0x0004)], [(.ix, 0xFFFC), (.xk, 3)]),
   ([0xFB22], [(.hr, 0x4000), (.ir, 0x4000), (.e, 2), (.ix, 0x100), (.iy, 0x200), (.word 0x102, 0x2000), (.word 0x202, 0x4000), (.ia, 0x508), (.iz, 7)], [(.am, 0x020000000), (.ix, 0x102), (.iy, 0x202), (.hr, 0x2000), (.ir, 0x4000), (.e, 1), (.ia, 0x508), (.iz, 7)]),
   ([0xFB22], [(.hr, 0x1000), (.ir, 0x8000), (.e, 0), (.ix, 0x104), (.iy, 0x204), (.am, 0x030000000), (.word 0x106, 0xAAAA), (.word 0x206, 0xBBBB), (.ia, 0x508)], [(.am, 0x020000000), (.ix, 0x106), (.iy, 0x206), (.hr, 0xAAAA), (.ir, 0xBBBB), (.ia, 0x50A)]),
   ([0x27B0], [(.xkix, 0x10100), (.ykiy, 0x20200), (.word 0x10100, 0x4000), (.word 0x20200, 0xC000)], [(.hr, 0x4000), (.ir, 0xC000)]),
   ([0x27B8], [(.sksp, 0x800), (.hr, 0x1111), (.ir, 0x2222), (.am, 0x9ABCD1234), (.sl, 1), (.xmsk, 7), (.ymsk, 0xF)], [(.word 0x800, 0x1111), (.word 0x7FE, 0x2222), (.word 0x7FC, 0x1234), (.word 0x7FA, 0xABCD), (.word 0x7F8, 0x8009), (.word 0x7F6, 0x070F), (.sksp, 0x7F4)]),
   ([0x27B9], [(.sksp, 0x7F4), (.word 0x800, 0x1111), (.word 0x7FE, 0x2222), (.word 0x7FC, 0x1234), (.word 0x7FA, 0xABCD), (.word 0x7F8, 0xFFF9), (.word 0x7F6, 0x070F)], [(.hr, 0x1111), (.ir, 0x2222), (.am, 0x9ABCD1234), (.sl, 1), (.xmsk, 7), (.ymsk, 0xF), (.sksp, 0x800)])]

theorem test_vectors_mac_unit_2 : vectors_mac_unit_2.all Vec.ok = true := by decide

/-! ### Branch conditions: 95_test_vectors.md V8 -/

/-- N, Z, V, C in the order of the table's heads. -/
def nzvc : List Nat := [0b0000, 0b0001, 0b0100, 0b0101, 0b1000, 0b1001, 0b0010, 0b1010, 0b1011, 0b0111]

/-- The rows of the branch table: the REL8 opcode byte, and taken or not for each column. -/
def branchTable : List (Nat × List Nat) :=
  [(0xB2, [1, 0, 0, 0, 1, 0, 1, 1, 0, 0]), (0xB3, [0, 1, 1, 1, 0, 1, 0, 0, 1, 1]),
   (0xB4, [1, 0, 1, 0, 1, 0, 1, 1, 0, 0]), (0xB5, [0, 1, 0, 1, 0, 1, 0, 0, 1, 1]),
   (0xB6, [1, 1, 0, 0, 1, 1, 1, 1, 1, 0]), (0xB7, [0, 0, 1, 1, 0, 0, 0, 0, 0, 1]),
   (0xB8, [1, 1, 1, 1, 1, 1, 0, 0, 0, 0]), (0xB9, [0, 0, 0, 0, 0, 0, 1, 1, 1, 1]),
   (0xBA, [1, 1, 1, 1, 0, 0, 1, 0, 0, 1]), (0xBB, [0, 0, 0, 0, 1, 1, 0, 1, 1, 0]),
   (0xBC, [1, 1, 1, 1, 0, 0, 0, 1, 1, 0]), (0xBD, [0, 0, 0, 0, 1, 1, 1, 0, 0, 1]),
   (0xBE, [1, 1, 0, 0, 0, 0, 0, 1, 1, 0]), (0xBF, [0, 0, 1, 1, 1, 1, 1, 0, 0, 1]),
   (0xB0, [1, 1, 1, 1, 1, 1, 1, 1, 1, 1]), (0xB1, [0, 0, 0, 0, 0, 0, 0, 0, 0, 0])]

/-- Every entry of the table, in the short form and, on page 3 at $80 + the opcode's low digit, in the long form. -/
theorem test_branch_table :
    branchTable.all (fun row => (nzvc.zip row.2).all fun e =>
      Vec.ok ([row.1 * 256 + 0x10], [(.ccr, 0xF0F0 + e.1 * 256)], [(.ia, if e.2 = 1 then 0x116 else 0x102)]) &&
      Vec.ok ([0x3700 + row.1 - 0x30, 0x0010], [(.ccr, 0xF0F0 + e.1 * 256)],
        [(.ia, if e.2 = 1 then 0x116 else 0x104)])) = true := by decide

/-! ### Effective addresses: 95_test_vectors.md V1 -/

/-- Fields set, and an address that the operand gives. -/
def eaOk (v : List (Fld × Nat) × Mem × Nat) : Bool := ((v.1.foldl (fun s e => e.1.put s e.2) start).ea v.2.1).toNat == v.2.2

theorem test_effective_addresses :
    ([([(.xkix, 0x1FFF0)], .ind8 .x 0x20, 0x20010), ([(.xkix, 0x100)], .ind8 .x 0xFF, 0x1FF),
      ([(.zkiz, 0xFFFFF)], .ind8 .z 1, 0), ([(.ykiy, 0x20010)], .ind16 .y 0xFFF0, 0x20000),
      ([(.ykiy, 4)], .ind16 .y 0xFFF0, 0xFFFF4), ([(.xkix, 0x8000)], .ind16 .x 0x7FFF, 0xFFFF),
      ([(.ek, 3)], .ext 0x1234, 0x31234), ([(.zkiz, 0x30000), (.e, 0xFFFE)], .eoff .z, 0x2FFFE),
      ([(.xkix, 0x1000), (.e, 0x7FFF)], .eoff .x, 0x8FFF)] : List (List (Fld × Nat) × Mem × Nat)).all eaOk = true := by
  decide

/-! ### Single steps -/

/-- `start` with fields set. -/
def startWith (l : List (Fld × Nat)) : State := l.foldl (fun s e => e.1.put s e.2) start

/-- The next state has the fields, and the run state and the inhibit are as said. -/
def stepsTo (s : State) (run : RunState) (inhibit : Bool) (l : List (Fld × Nat)) : Bool :=
  match step s with
  | .next t => decide (t.ctl.run = run) && t.ctl.inhibit == inhibit && l.all fun e => e.1.get t == e.2
  | .fault _ => false
  | .refused _ => false

/-- The step that `withFetchWord` prepares runs the instruction: ANDP #$FF1F sets the inhibit. -/
theorem test_step_fetch_word :
    stepsTo (State.reset.withFetchWord 32 0xFF1F373A) .running true [(.ia, 4), (.ccr, 0x8000)] = true := by decide

/-- 95_test_vectors.md V11, frame example: level 5 by autovector at $1FFFC, stack wrapping below $00000. -/
theorem test_step_interrupt :
    stepsTo { startWith [(.ccr, 0x8461), (.ia, 0x1FFFC), (.sksp, 2), (.word 0x2A, 0x900)] with
        plat := { Platform.reset with irq := { IrqLines.none with irq5 := true },
                                      iack := [.busError, .busError, .busError, .busError, .autovector] } }
      .running true [(.ia, 0x900), (.ccr, 0x84A0), (.sksp, 0xFFFFE), (.word 2, 2), (.word 0, 0x8462)] = true := by decide

/-- 95_test_vectors.md V11: level 3 is not recognised at IP = 3; the NOP runs. -/
theorem test_step_masked :
    stepsTo { startWith [(.ccr, 0x8060), (.word 0x100, 0x274C)] with
        plat := { Platform.reset with irq := { IrqLines.none with irq3 := true } } }
      .running false [(.ia, 0x102)] = true := by decide

/-- A missing acknowledge answer is the spurious interrupt, vector $18 (60_exceptions.md R757). -/
theorem test_step_spurious :
    stepsTo { startWith [(.sksp, 0x800), (.word 0x30, 0x900)] with
        plat := { Platform.reset with irq := { IrqLines.none with irq1 := true } } }
      .running true [(.ia, 0x900), (.word 0x800, 0x106), (.ccr, 0x20)] = true := by decide

/-- 60_exceptions.md R726: a latched BERR is taken before the instruction, vector 5. -/
theorem test_step_bus_error :
    stepsTo ((startWith [(.sksp, 0x2FE), (.word 0xA, 0x180)]).setBerrLatch true)
      .running true [(.ia, 0x180), (.word 0x2FE, 0x106), (.sksp, 0x2FA)] = true := by decide

/-- 95_test_vectors.md V0: an unassigned word takes vector 7 with IA + 8 stacked. -/
theorem test_step_illegal :
    stepsTo (startWith [(.sksp, 0x800), (.word 0x100, 0x1707), (.word 0xE, 0x500)])
      .running true [(.ia, 0x500), (.word 0x800, 0x108)] = true := by decide

/-- 95_test_vectors.md V9: LPSTOP with S = 1 is a NOP, with S = 0 it stops; WAI waits. -/
theorem test_step_stop_wait :
    stepsTo (startWith [(.ccr, 0x8000), (.word 0x100, 0x27F1)]) .running false [(.ia, 0x102)] = true ∧
    stepsTo (startWith [(.ccr, 0x0060), (.word 0x100, 0x27F1)]) .stopped false [(.ia, 0x102)] = true ∧
    stepsTo (startWith [(.word 0x100, 0x27F3)]) .waiting false [(.ia, 0x102)] = true := by decide

/-- 95_test_vectors.md V9: BGND with background debugging enabled. -/
theorem test_step_background :
    stepsTo { startWith [(.ia, 0x300), (.word 0x300, 0x37A6)] with
        ctl := { Control.reset with berrWindow := false, bdmFlag := true } }
      .background false [(.ia, 0x302), (.sksp, 0)] = true := by decide

/-- 95_test_vectors.md V12: reset with the vector words $F321 $8001 $FFFF $1234 and CCR = $7F1F before. -/
theorem test_step_reset :
    stepsTo { startWith [(.ccr, 0x7F1F), (.ek, 9), (.xk, 9), (.yk, 9), (.word 0, 0xF321), (.word 2, 0x8001),
          (.word 4, 0xFFFF), (.word 6, 0x1234)] with
        ctl := { Control.reset with run := .halted }, plat := { Platform.reset with inputs := [.reset false] } }
      .running false [(.ia, 0x18000), (.ccr, 0xFFE1), (.sksp, 0x2FFFF), (.zkiz, 0x31234), (.ek, 0), (.xk, 0),
        (.yk, 0)] = true := by decide

/-- A bus error while the vector is read, in the window, halts (60_exceptions.md R733). -/
theorem test_step_double_fault :
    stepsTo { (startWith [(.sksp, 0x800)]).setBerrLatch true with
        plat := { Platform.reset with dataMap := [⟨0xA, 0xB, .busError⟩] } }
      .halted false [(.sksp, 0x7FC)] = true := by decide

/-- 20_memory.md R108: STAA into the instruction after it, in the prefetch window, and then that instruction. -/
theorem test_step_stale :
    (match step (startWith [(.word 0x100, 0x177A), (.word 0x102, 0x0105), (.word 0x104, 0x274C)]) with
      | .next t =>
        (match step t with
          | .refused r => decide (r = .storeIntoPrefetchWindow)
          | .fault _ => false
          | .next _ => false)
      | .fault _ => false
      | .refused _ => false) = true := by decide

/-- 60_exceptions.md R733: halted and no input left. -/
theorem test_step_halted : step (start.setRun .halted) = .fault .halted := rfl

/-- 20_memory.md R105: PSHA onto a ROM that ends stores in BERR drops the byte and latches the bus error; PULA reads
it. -/
theorem test_step_rom_bus_error :
    (match step { startWith [(.a, 0x55), (.sksp, 0x200), (.byte 0x201, 0x77), (.word 0x100, 0x3708)] with
        plat := { Platform.reset with dataMap := [⟨0x200, 0x2FF, .romBusError⟩] } } with
      | .next t => t.ctl.berrLatch && t.dataByte 0x201 == 0x77 && t.byteAt 0x201 == 0x77
      | .fault _ => false
      | .refused _ => false) = true := by decide

/-- 60_exceptions.md R722: the platform says per fetch whether BKPT is asserted; the second fetch of one word is tagged,
the first was not. -/
theorem test_step_tag :
    (let s := startWith [(.word 0x100, 0x274C)]
     let tag := { s with plat := { s.plat with inputs := [.bkpt IrqLines.none [] [(0x100, 0x100)]] } }
     match step s, step tag with
      | .next t, .next u => !t.ctl.bkptLatch && u.ctl.bkptLatch && u.plat.inputs.isEmpty
      | _, _ => false) = true := by decide

/-- 92_eei_decisions.md D30: level 3 wakes a stopped processor from IP = 2 and not from IP = 3; 46_index_stack_ccr.md R650:
a `STOP_WAKE` that lists level 3 does so too, for an interrupt must occur, and one that lists level 2 never does. -/
theorem test_step_stop_wake :
    (let s (w : StopWake) (ip : Nat) := { (startWith [(.ccr, ip * 32), (.sksp, 0x800), (.word 0x26, 0x900)]) with
        ctl := { Control.reset with berrWindow := false, run := .stopped, ebiIP := BitVec.ofNat 3 ip },
        plat := { Platform.reset with stopWake := w, irq := { IrqLines.none with irq3 := true },
                                      iack := [.busError, .busError, .autovector] } }
     stepsTo (s .aboveCopy 2) .running true [(.ia, 0x900), (.word 0x800, 0x106)] &&
       stepsTo (s .aboveCopy 3) .stopped false [(.ia, 0x100)] &&
       stepsTo (s (.levels { IrqLines.none with irq3 := true }) 2) .running true [(.ia, 0x900), (.word 0x800, 0x106)] &&
       stepsTo (s (.levels { IrqLines.none with irq3 := true }) 3) .stopped false [(.ia, 0x100)] &&
       stepsTo (s (.levels { IrqLines.none with irq2 := true }) 2) .stopped false [(.ia, 0x100)]) = true := by decide

/-- 60_exceptions.md R800 and R804: NOT READY for each of the four words of WPCSP, then command complete; an unassigned
word is answered ILLEGAL at once. -/
theorem test_step_not_ready :
    (let s (ws : List Word) := { start with
        ctl := { Control.reset with run := .background, bdmFlag := true }, plat := { Platform.reset with bdmIn := ws } }
     match step (s [0x1783, 3, 0x8000, 2, 0x7FE]), step (s [0x1700]) with
      | .next t, .next u =>
        t.plat.bdmOut == [0x10000, 0x10000, 0x10000, 0x10000, 0x0FFFF] && t.reg.pc == 0x8000 && u.plat.bdmOut == [0x1FFFF]
      | _, _ => false) = true := by decide

/-! ### Pipeline state signals: 60_exceptions.md R810 to R812 -/

/-- The pins of both phases and the bus word, cycle by cycle. -/
def pinTrace (s : State) : List (BitVec 2 × BitVec 2 × Option Word) :=
  s.pipeCycles.map fun k => (pinsOfOne k.one, pinsOfTwo k.two, k.bus)

/-- NOP: START & FETCH of the word two ahead, then ADVANCE. LDD #$1234: one more FETCH with ADVANCE. -/
theorem test_pins_sequence :
    pinTrace (startWith [(.word 0x100, 0x274C), (.word 0x102, 0x1111), (.word 0x104, 0x2222)]) =
      [(0b00, 0b01, some 0x2222)] ∧
    pinTrace (startWith [(.word 0x100, 0x37B5), (.word 0x102, 0x1234), (.word 0x104, 0x2222), (.word 0x106, 0x3333)]) =
      [(0b00, 0b01, some 0x2222), (0b01, 0b01, some 0x3333)] := by decide

/-- BRA to $116: START without FETCH, then the two words there; SWI the same, without EXCEPTION (R811). -/
theorem test_pins_change_of_flow :
    pinTrace (startWith [(.word 0x100, 0xB010), (.word 0x116, 0x1111), (.word 0x118, 0x2222)]) =
      [(0b10, 0b01, none), (0b01, 0b01, some 0x1111), (0b01, 0b01, some 0x2222)] ∧
    pinTrace (startWith [(.sksp, 0x800), (.word 0x100, 0x3720), (.word 0xC, 0x500), (.word 0x500, 0x1111),
        (.word 0x502, 0x2222)]) =
      [(0b10, 0b01, none), (0b01, 0b01, some 0x1111), (0b01, 0b01, some 0x2222)] := by decide

/-- A latched bus error: the prefetch ends before EXCEPTION; an interrupt that ends the waiting state: EXCEPTION with the
prefetch (R812). In background mode the pins show nothing. -/
theorem test_pins_exception :
    pinTrace ((startWith [(.sksp, 0x2FE), (.word 0xA, 0x180), (.word 0x104, 0x4444), (.word 0x180, 0x1111),
        (.word 0x182, 0x2222)]).setBerrLatch true) =
      [(0b01, 0b11, some 0x4444), (0b11, 0b10, none), (0b01, 0b01, some 0x1111), (0b01, 0b01, some 0x2222)] ∧
    pinTrace { (startWith [(.sksp, 0x800), (.word 0x30, 0x180), (.word 0x104, 0x4444), (.word 0x180, 0x1111)]).setRun .waiting with
        plat := { Platform.reset with irq := { IrqLines.none with irq1 := true } } } =
      [(0b01, 0b10, some 0x4444), (0b01, 0b01, some 0x1111), (0b01, 0b01, some 0)] ∧
    pinTrace (start.setRun .background) = [] ∧ (start.setRun .background).freezeAsserted = true ∧
    (start.setRun .halted).haltAsserted = true := by decide

/-- RMAC with three iterations to go: START with the first, nothing with the second, and FETCH with ADVANCE with the last;
an RMAC of one iteration as any instruction in sequence (R811, 47_dsp.md R679). -/
theorem test_pins_rmac :
    (let next (s : State) : State := match step s with
       | .next t => t
       | _ => s
     let s := startWith [(.e, 2), (.word 0x100, 0xFB22), (.word 0x104, 0x2222)]
     pinTrace s = [(0b10, 0b11, none)] ∧ pinTrace (next s) = [] ∧
       pinTrace (next (next s)) = [(0b01, 0b01, some 0x2222)] ∧
       pinTrace (startWith [(.word 0x100, 0xFB22), (.word 0x104, 0x2222)]) = [(0b00, 0b01, some 0x2222)]) := by decide

/-- 60_exceptions.md R732: a prefetch that ends in BERR sets the latch while the NOP runs; in the window it halts. -/
theorem test_step_prefetch_bus_error :
    (let s := { startWith [(.word 0x100, 0x274C)] with
        plat := { Platform.reset with progMap := [⟨0x104, 0x1FF, .busError⟩] } }
     match step s, step (s.setBerrWindow true) with
      | .next t, .next u => t.ctl.berrLatch && t.ia == 0x102 && u.ctl.run == .halted && u.ia == 0x100
      | _, _ => false) = true := by decide

/-- 60_exceptions.md R812, R721: a hole two words on latches BERR when a breakpoint is taken, and is a double bus fault in
the window; it does no more to a bus error that is latched already. -/
theorem test_step_exception_prefetch :
    (let s := { startWith [(.sksp, 0x800), (.word 8, 0x180), (.word 0xA, 0x190)] with
        plat := { Platform.reset with progMap := [⟨0x104, 0x105, .busError⟩] } }
     match step (s.setBkptLatch true), step ((s.setBkptLatch true).setBerrWindow true), step (s.setBerrLatch true) with
      | .next t, .next u, .next v =>
        t.ctl.berrLatch && t.ia == 0x180 && t.sksp == 0x7FC && u.ctl.run == .halted && u.sksp == 0x800 &&
          v.ctl.run == .running && v.ia == 0x190
      | _, _, _ => false) = true := by decide

/-- 20_memory.md R91: the codes of the three spaces. -/
theorem test_function_codes :
    ([.operandAccess 0x100, .exceptionVectorFetch 8, .instructionFetch 0x100, .resetVectorFetch 0, .breakpointAcknowledge,
      .interruptAcknowledge 3, .stopBroadcast 7] : List BusCycle).map BusCycle.functionCode =
      [0b101, 0b101, 0b110, 0b110, 0b111, 0b111, 0b111] := by decide

/-- 60_exceptions.md R745, R746, R722: the breakpoint exception clears the latch and acknowledges once; BKPT at a byte of
its frame sets the latch again; background mode is entered without an acknowledge cycle. -/
theorem test_step_breakpoint :
    (let s (r : List (Nat × Nat)) := { (startWith [(.sksp, 0x800), (.word 8, 0x180)]).setBkptLatch true with
        plat := { Platform.reset with dataBkpt := r } }
     match step (s []), step (s [(0x7FF, 0x7FF)]), step { s [] with ctl := { (s []).ctl with bdmFlag := true } } with
      | .next t, .next u, .next v =>
        !t.ctl.bkptLatch && t.ia == 0x180 && t.plat.bkptAcks == 1 && u.ctl.bkptLatch && u.plat.bkptAcks == 1 &&
          v.ctl.run == .background && v.plat.bkptAcks == 0
      | _, _, _ => false) = true := by decide

/-- 20_memory.md R128, 60_exceptions.md R806: WPMEM writes the separate program memory, at the even address. -/
theorem test_step_wpmem :
    (let s := { start with
        ctl := { Control.reset with run := .background, bdmFlag := true },
        plat := { Platform.reset with splitSpaces := true, bdmIn := [0x1787, 0x0001, 0x0101, 0xABCD] } }
     match step s with
      | .next t => t.prog == [(0x10100, 0xAB), (0x10101, 0xCD)] && t.mem == s.mem &&
          t.plat.bdmOut == [0x10000, 0x10000, 0x10000, 0x0FFFF]
      | _ => false) = true := by decide

/-- External hardware that follows the signals of NOP, from the two words in stages B and A. -/
theorem test_pipeline_followed :
    (Pipeline.observeAll { a := 0x1111, b := 0x274C, c := 0, started := false, exception := true }
      (startWith [(.word 0x100, 0x274C), (.word 0x102, 0x1111), (.word 0x104, 0x2222)]).pipeCycles) =
      { a := 0x2222, b := 0x1111, c := 0x274C, started := false, exception := false } := by decide

/-! ### Witnesses: states and operands that meet the hypotheses of the obligations -/

/-- RAM everywhere but $00200 to $002FF, where every cycle ends in BERR. -/
def holed : State := { start with plat := { Platform.reset with dataMap := [⟨0x200, 0x2FF, .busError⟩] } }

/-- An interrupt of level 7 pending, one of level 1 too. -/
def requested : State :=
  { start with plat := { Platform.reset with irq := { IrqLines.none with irq1 := true, irq7 := true },
                                             iack := [.vector 0x40, .busError, .busError, .busError, .busError, .busError,
                                               .autovector] } }

theorem witness_DecodeEncodeRoundTrip :
    ([.movw (.extToExt 0 0xFFFF), .tst (.ind8 .z 0xFF), .nop] : List Instr).all Instr.wellFormed = true := by decide

theorem witness_DecodeYieldsWellFormed :
    (decode 0x274C 0 0).toOption = some .nop ∧ Instr.nop.length = 2 ∧
    (decode 0x37B5 0xFFFF 0).toOption = some (.ldd (.imm16 0xFFFF)) ∧ (Instr.ldd (.imm16 0xFFFF)).length = 4 ∧
    (decode 0x37FF 0 0xFFFF).toOption = some (.movw (.extToExt 0 0xFFFF)) := by decide

/-- A NOP at $100 whose third prefetched word lies where every fetch ends in BERR. -/
def unfetched : State :=
  { startWith [(.word 0x100, 0x274C)] with plat := { Platform.reset with progMap := [⟨0x104, 0x1FF, .busError⟩] } }

/-- The machine at a NOP, with and without the window, with the inhibit holding an interrupt off, tagged, and with a
fetch that fails. -/
theorem witness_StepRunsDecodedInstruction :
    ([startWith [(.word 0x100, 0x274C)],
      { startWith [(.word 0x100, 0x274C)] with ctl := { Control.reset with berrWindow := true, berrLatch := true } },
      { startWith [(.word 0x100, 0x274C)] with
          ctl := { Control.reset with berrWindow := false, inhibit := true, nmiLatch := true },
          plat := requested.plat },
      { startWith [(.word 0x100, 0x274C)] with plat := { Platform.reset with progBkpt := [(0x100, 0x100)] } },
      unfetched, unfetched.setBerrWindow true] : List State).all (fun s =>
        s.quiet && (s.ctl.inhibit || (s.pendingLevel (fieldIP s.reg.ccr)).isNone) && s.fetchKnown &&
        decide ((decode (s.fetchedWord s.ia) (s.fetchedWord (s.ia + 2)) (s.fetchedWord (s.ia + 4))).toOption =
          some .nop) &&
        !s.isStale 2 && inRanges s.plat.progBkpt s.ia.toNat == !s.plat.progBkpt.isEmpty) = true ∧
    unfetched.fetchBroken = true ∧ start.fetchBroken = false ∧
    exec .nop start = .next (start.advance 2) := ⟨by decide, by decide, by decide, rfl⟩

/-- An unassigned word in memory, in and outside the window and with BKPT at its fetch, and the word $FFFF of a fetch that
ends in BERR. -/
theorem witness_IllegalInstruction :
    ([startWith [(.word 0x100, 0x0700)],
      { startWith [(.word 0x100, 0x0700)] with ctl := { Control.reset with berrWindow := true, berrLatch := true } },
      { startWith [(.word 0x100, 0x0700)] with plat := { Platform.reset with progBkpt := [(0x100, 0x100)] } },
      { start with plat := { Platform.reset with progMap := [⟨0x100, 0x1FF, .busError⟩] } }] : List State).all (fun s =>
     s.quiet && (s.pendingLevel (fieldIP s.reg.ccr)).isNone && s.fetchKnown &&
       (match decode (s.fetchedWord s.ia) (s.fetchedWord (s.ia + 2)) (s.fetchedWord (s.ia + 4)) with
        | .error (.unassignedOpcode w) => w == s.fetchedWord s.ia
        | _ => false) && !s.isStale 2 && (if s.ctl.berrWindow then !s.fetchBroken else !s.ctl.berrLatch) &&
       inRanges s.plat.progBkpt s.ia.toNat == !s.plat.progBkpt.isEmpty && s.exceptionReady 7) = true := by decide

/-- Both ways to stop occur. -/
theorem witness_StopsOnlyTwoWays :
    step (start.setRun .halted) = .fault .halted ∧
    step { start with stale := [0x101] } = .refused .storeIntoPrefetchWindow := ⟨rfl, rfl⟩

theorem witness_StepKeepsMemoryCanonical :
    (startWith [(.word 0x100, 0x274C)]).memoryOk = true ∧
    ∃ t, step (startWith [(.word 0x100, 0x274C)]) = .next t := ⟨by decide, _, rfl⟩

theorem witness_StepKeepsPcEven :
    (startWith [(.word 0x100, 0x274C)]).pcEven = true ∧
    ∃ t, step (startWith [(.word 0x100, 0x274C)]) = .next t := ⟨by decide, _, rfl⟩

theorem witness_ResetApplies :
    ({ start with plat := { Platform.reset with inputs := [.reset true, .lines IrqLines.none] } }).plat.inputs =
      .reset true :: [.lines IrqLines.none] ∧
    start.fetchable 0 = true ∧ start.fetchable 2 = true ∧ start.fetchable 4 = true ∧ start.fetchable 6 = true := by decide

/-- RAM at the last byte of the address space and at the byte after it, $00000. -/
theorem witness_ReadAfterWrite :
    start.executing = true ∧ start.writable 0xFFFFF = true ∧ start.writable (0xFFFFF + 1) = true ∧
    start.readable 0xFFFFF = true ∧ start.readable (0xFFFFF + 1) = true := by decide

/-- The first and the last byte of the hole and of a ROM that ends stores in BERR, in and outside the window. -/
theorem witness_BusErrorLatches :
    kindAt [⟨0x200, 0x2FF, .romBusError⟩] 0x200 = .romBusError ∧ kindAt [⟨0x200, 0x2FF, .romBusError⟩] 0x2FF = .romBusError ∧
    kindAt holed.plat.dataMap 0x200 = .busError ∧ kindAt holed.plat.dataMap 0x2FF = .busError ∧
    holed.executing = true ∧ (holed.setBerrWindow true).executing = false ∧
    kindAt holed.plat.dataMap 0x1FF = .ram ∧ kindAt holed.plat.dataMap 0x300 = .ram := by decide

theorem witness_AddressesAndOperands :
    start.readable (start.ea (.ext 0xFFFF)) = true ∧ start.readable (start.ea (.ext 0xFFFF) + 1) = true := by decide

/-- The premises of every statement made with `Computes`, `ReadsInto`, `WritesByte` or `WritesWord`: an executing state
and well-formed operands, one list of forms for each shape. -/
theorem witness_forms :
    start.executing = true ∧ holed.executing = true ∧
    ([.ldaa (.mem (.eoff .z)), .ldab (.imm 0xFF), .ldd (.mem (.ind8 .x 0)), .lde (.imm16 0), .ldx (.mem (.ext 0xFFFF)),
      .ldy (.mem (.ind16 .y 0x8000)), .ldz (.imm16 0xFFFF), .lds (.mem (.ind8 .z 0xFF)), .staa (.eoff .x),
      .stab (.ext 0), .std (.eoff .y), .ste (.ind16 .x 0xFFFF), .stx (.ind8 .x 0), .sty (.ext 1), .stz (.ind16 .z 0),
      .sts (.ext 0xFFFF), .movb (.ixpToExt 0x80 0), .movb (.extToIxp 0 0x7F), .movb (.extToExt 0 0xFFFF),
      .movw (.ixpToExt 0xFF 0xFFFF), .movw (.extToIxp 0xFFFF 0), .movw (.extToExt 0xFFFF 0), .lded 0xFFFF, .sted 0,
      .adda (.imm 0), .addd (.imm8 0x80), .adde (.imm8 0xFF), .adcd (.mem (.eoff .x)), .adce (.imm16 0),
      .suba (.mem (.ext 0)), .subd (.imm16 0), .sube (.mem (.ext 0)), .sbcd (.imm16 1), .sbce (.imm16 1),
      .cmpa (.imm 0), .cpd (.imm16 0), .cpe (.imm16 0), .cpx (.imm16 0), .cpy (.imm16 0), .cpz (.imm16 0), .cps (.imm16 0),
      .tst (.ind8 .x 0), .tstw (.ext 0), .inc (.ext 0), .incw (.ext 0), .dec (.ext 0), .decw (.ext 0), .clr (.ext 0),
      .clrw (.ext 0), .com (.ext 0), .comw (.ext 0), .neg (.ext 0), .negw (.ext 0), .anda (.imm 0), .andd (.imm16 0),
      .ande (.imm16 0), .bclr (.ind8 .x 0) 0, .bset (.ext 0) 0xFF, .bclrw (.ext 0) 0xFFFF, .bsetw (.ind16 .y 0) 0,
      .lsr (.ext 0), .lsrw (.ext 0), .asl (.ext 0), .aslw (.ext 0), .asr (.ext 0), .asrw (.ext 0), .rol (.ext 0),
      .rolw (.ext 0), .ror (.ext 0), .rorw (.ext 0), .brclr (.ind8 .x 0) 0 (.r8 0x80), .brset (.ext 0) 0xFF (.r16 0x8000),
      .aix (.i8 0x80), .aiy (.i16 0x8000), .aiz (.i8 0), .ais (.i16 0xFFFF), .tab, .tsta, .daa, .sxt, .mul, .ediv, .fdiv,
      .lsra, .abx, .tsx, .psha, .tpa, .nop] : List Instr).all Instr.wellFormed = true := by decide

theorem witness_LongMoves : start.executing = true ∧ start.readableFrom (pair start.reg.ek 0xFFFE) 4 = true := by decide

/-- A state for each row of the DAA table, at the lowest and at the highest digits of the row. -/
theorem witness_DecimalAdjustAndSignExtend :
    ([(false, 0, 9, false, 0, 9), (false, 0, 8, false, 10, 15), (false, 0, 9, true, 0, 3), (false, 10, 15, false, 0, 9),
      (false, 9, 15, false, 10, 15), (false, 10, 15, true, 0, 3), (true, 0, 2, false, 0, 9), (true, 0, 2, false, 10, 15),
      (true, 0, 3, true, 0, 3)] : List (Bool × Nat × Nat × Bool × Nat × Nat)).all (fun row =>
        let (c, hiFrom, hiTo, h, loFrom, loTo) := row
        [(hiFrom, loFrom), (hiTo, loTo)].all fun d =>
          let s := startWith [(.a, 16 * d.1 + d.2), (.flag 8, c.toNat), (.flag 13, h.toNat)]
          flagC s.reg.ccr == c && flagH s.reg.ccr == h && decide (hiFrom ≤ s.reg.a.toNat / 16) &&
            decide (s.reg.a.toNat / 16 ≤ hiTo) && decide (loFrom ≤ s.reg.a.toNat % 16) &&
            decide (s.reg.a.toNat % 16 ≤ loTo)) = true := by decide

theorem witness_Multiplications :
    (startWith [(.ed, 0x80008000)]).reg.e = 0x8000 ∧ (startWith [(.ed, 0x80008000)]).d = 0x8000 := by decide

/-- EDIV: the greatest quotient that fits, and the least that does not; EDIVS: -32768 and 32768. -/
theorem witness_ExtendedDivisions :
    (let s := startWith [(.ed, 0xFFFEFFFF), (.ix, 0xFFFF)]
     s.reg.ix ≠ 0 ∧ s.ed.toNat < 2 ^ 16 * s.reg.ix.toNat) ∧
    (let s := startWith [(.ed, 0x00010000), (.ix, 1)]
     s.reg.ix ≠ 0 ∧ 2 ^ 16 * s.reg.ix.toNat ≤ s.ed.toNat) ∧
    (let s := startWith [(.ed, 0xFFFF7FFF), (.ix, 2)]
     s.ed.toInt = (-16384) * s.reg.ix.toInt + (-1) ∧ (-1 : Int).natAbs < s.reg.ix.toInt.natAbs) ∧
    (let s := startWith [(.ed, 0xFFFF8000), (.ix, 1)]
     s.ed.toInt = (-32768) * s.reg.ix.toInt + 0 ∧ (0 : Int).natAbs < s.reg.ix.toInt.natAbs) ∧
    (let s := startWith [(.ed, 0x00008000), (.ix, 1)]
     s.ed.toInt = 32768 * s.reg.ix.toInt + 0 ∧ (0 : Int).natAbs < s.reg.ix.toInt.natAbs) := by decide

theorem witness_DivisionByZero :
    start.executing = true ∧ start.reg.ix = 0 ∧ start.exceptionReady 8 = true := by decide

theorem witness_ShortDivisions :
    (startWith [(.d, 0), (.ix, 1)]).d.toNat < (startWith [(.d, 0), (.ix, 1)]).reg.ix.toNat ∧
    (startWith [(.d, 0), (.ix, 1)]).reg.ix.toNat ≠ 0 ∧
    start.reg.ix.toNat = 0 ∧ start.reg.ix.toNat ≤ start.d.toNat ∧
    (startWith [(.d, 0x8000), (.ix, 0x8000)]).reg.ix.toNat ≤ (startWith [(.d, 0x8000), (.ix, 0x8000)]).d.toNat := by decide

theorem witness_BitBranches :
    start.executing = true ∧ (Instr.brclr (.ind8 .x 0) 0 (.r8 0x80)).wellFormed = true ∧
    (Instr.brset (.ind16 .z 0x8000) 0xFF (.r16 0x7FFF)).wellFormed = true := by decide

theorem witness_JumpsAndCalls : start.executing = true ∧ start.frameWritable = true := by decide

theorem witness_ReturnsFromCall :
    start.executing = true ∧ start.readableFrom (start.sksp + 2) 4 = true ∧ start.frameWritable = true ∧
    start.pcEven = true := by decide

theorem witness_SoftwareInterrupt : start.executing = true ∧ start.exceptionReady 6 = true := by decide

theorem witness_ReturnsFromException :
    start.executing = true ∧ start.readableFrom (start.sksp + 2) 4 = true ∧ start.exceptionReady 6 = true ∧
    start.pcEven = true := by decide

theorem witness_StackPrimitives :
    start.executing = true ∧ start.readableFrom (start.sksp + 2) 2 = true ∧ start.readable (start.sksp + 2) = true := by
  decide

theorem witness_PushesMultiple : start.executing = true := by decide

theorem witness_PullsMultiple :
    start.executing = true ∧ start.readableFrom (start.sksp + 2) 16 = true ∧
    (startWith [(.sksp, 0xFFFFE)]).readableFrom ((startWith [(.sksp, 0xFFFFE)]).sksp + 2) 16 = true := by decide

theorem witness_StopWaitAndBackground :
    flagS (startWith [(.flag 15, 1)]).reg.ccr = true ∧ flagS start.reg.ccr = false ∧ start.ctl.bdmFlag = false ∧
    start.executing = true ∧ start.exceptionReady 7 = true ∧
    ({ start with ctl := { Control.reset with bdmFlag := true } }).ctl.bdmFlag = true := by decide

theorem witness_MacTransfers :
    start.executing = true ∧ start.readableFrom start.xkix 2 = true ∧ start.readableFrom start.ykiy 2 = true := by decide

/-- The smallest and the greatest right-justified masks, and RAM wherever the index registers point. -/
theorem witness_MultiplyAccumulate :
    start.executing = true ∧ (0 : Byte) &&& (0 + 1) = 0 ∧ (0xFF : Byte) &&& (0xFF + 1) = 0 ∧
    start.readableFrom (pair start.reg.xk 0xFFFF) 2 = true ∧ start.readableFrom (pair start.reg.yk 0) 2 = true := by decide

/-- The count after which RMAC goes on, and those after which it ends. -/
theorem witness_RepeatingMultiplyAccumulate :
    start.executing = true ∧ decide (0 ≤ ((startWith [(.e, 1)]).reg.e - 1).toInt) = true ∧
    decide (0 ≤ ((startWith [(.e, 0x8000)]).reg.e - 1).toInt) = true ∧
    decide (0 ≤ ((startWith [(.e, 0)]).reg.e - 1).toInt) = false ∧
    decide (0 ≤ ((startWith [(.e, 0x8001)]).reg.e - 1).toInt) = false := by decide

theorem witness_MacStacking : start.executing = true ∧ start.readableFrom (start.sksp + 2) 12 = true := by decide

/-- Each kind of input waiting. -/
theorem witness_InterruptRecognition :
    ([.lines requested.plat.irq, .bkpt requested.plat.irq [(0, 1)] [(2, 2)]] : List Input).all (fun i =>
      let s := { start with plat := { Platform.reset with inputs := [i] } }
      decide (s.plat.inputs = [i]) && s.pendingLevel 0 == none) = true := by decide

/-- Level 1 running, level 7 running by its latch, level 1 waiting, level 1 stopped by each `STOP_WAKE`. -/
theorem witness_InterruptTaken :
    (let hole (s : State) := { s with plat := { s.plat with progMap := [⟨0x104, 0x105, .busError⟩] } }
     ([hole requested, hole (requested.setBerrWindow true), requested.setBerrWindow true] : List State).map
       (fun s => (s.executing, s.fetchFails (s.ia + 4), s.fetchable (s.ia + 4))) =
       [(true, true, false), (false, true, false), (false, false, true)]) ∧
    ([(requested, 1), (requested.setBerrWindow true, 1), (requested.setNmiLatch true, 7), (requested.setRun .waiting, 1), (requested.setRun .stopped, 1),
      ({ requested.setRun .stopped with
          plat := { requested.plat with stopWake := .levels { IrqLines.none with irq1 := true } } }, 1)] :
      List (State × BitVec 3)).all (fun e =>
        e.1.plat.inputs.isEmpty && (e.1.executing || !e.1.fetchFails (e.1.ia + 4)) && (e.1.plat.iack[e.2.toNat - 1]?).isSome &&
        (match e.1.plat.stopWake with
          | .aboveCopy => true
          | .levels m => e.1.plat.irq.meets m) &&
        e.1.exceptionReady 0x40 && e.1.exceptionReady 0x17 && !e.1.ctl.berrLatch && !e.1.ctl.bkptLatch &&
        !e.1.ctl.inhibit && decide (e.1.pendingLevel (fieldIP e.1.reg.ccr) = some e.2) &&
        decide (e.1.pendingLevel e.1.ctl.ebiIP = some e.2)) = true := by decide

theorem witness_IdleStates :
    ([.waiting, .stopped, .halted] : List RunState).all (fun r =>
      let s := start.setRun r
      s.plat.inputs.isEmpty && decide (s.ctl.run = r) && (s.pendingLevel (fieldIP s.reg.ccr)).isNone &&
        (s.pendingLevel s.ctl.ebiIP).isNone) = true ∧
    start.plat.stopWake = .aboveCopy ∧ start.plat.irq.meets IrqLines.none = false ∧
    (let s := { start with plat := { Platform.reset with
        irq := { IrqLines.none with irq7 := true }, stopWake := .levels { IrqLines.none with irq7 := true } } }
     s.plat.irq.meets { IrqLines.none with irq7 := true } = true ∧ s.pendingLevel (fieldIP s.reg.ccr) = none) := by decide

theorem witness_BusErrorAndBreakpointTaken :
    ([start.setBerrLatch true, start.setBkptLatch true, (start.setBkptLatch true).setBerrWindow true,
      { start with ctl := { Control.reset with bkptLatch := true, bdmFlag := true } }] : List State).all (fun s =>
        s.plat.inputs.isEmpty && decide (s.ctl.run = .running) && (s.ctl.berrLatch || s.ctl.bkptLatch) &&
          s.exceptionReady 4 && s.exceptionReady 5) = true ∧
    (let s := { (start.setBkptLatch true).setBerrWindow true with
        plat := { Platform.reset with progMap := [⟨0x104, 0x105, .busError⟩] } }
     s.ctl.run = .running ∧ s.ctl.bdmFlag = false ∧ s.executing = false ∧ s.fetchFails (s.ia + 4) = true) := by decide

/-- A machine in background mode with one command waiting: each of the shapes that the statement names. -/
theorem witness_BackgroundCommands :
    ([[], [0x1780, 0x7F], [0x1780, 0], [0x1781, 0xFFFF, 1, 2, 3, 4, 5, 6, 7], [0x1782], [0x1783, 1, 2, 3, 4],
      [0x1784, 0, 0], [0x1784, 0x4000, 0], [0x1784, 0x7FFF, 0xFFFF], [0x1784, 0x8000, 0], [0x1784, 0xC00F, 0xFFFF],
      [0x1781, 0x42, 1, 2], [0x1781, 0], [0x1785, 0, 0, 1], [0x1785, 0x4000, 0, 1], [0x1785, 0x8000, 0, 1, 2],
      [0x1787, 0, 0, 1], [0x1787, 0xFFFF, 0xFFFF, 1], [0x1786, 0, 0], [0x1786, 0xFFFF, 0xFFFF], [0x1788], [0x1789],
      [0x178A], [0x178B, 1, 2, 3, 4, 5, 6], [0x177F], [0x178C]] : List (List Word)).all (fun ws =>
        let s := { start with ctl := { Control.reset with run := .background, bdmFlag := true },
                              plat := { Platform.reset with bdmIn := ws } }
        s.plat.inputs.isEmpty && decide (s.ctl.run = .background) && decide (s.plat.bdmIn = ws)) = true ∧
    (∀ j < 7, (0x7F : Word).getLsbD j = true) ∧ (0b01#2 ++ (0x3FF : BitVec 10) ++ (0xF : Ext) : Word) = 0x7FFF ∧
    (0b11#2 ++ (0 : BitVec 10) ++ (0xF : Ext) : Word) = 0xC00F ∧ start.readableFrom 0xFFFFF 4 = true ∧
    (List.range 7).countP (fun j => (0x42 : Word).getLsbD j) = 2 ∧
    start.readable 0 = true ∧ start.readable (0xFFFFF + 1) = true ∧ start.fetchable (evenAddr 0xFFFFF) = true := by decide


end Sys2Proof.Tests
end

/-! PROOFS. What a step can do to PC and to the two memories. A predicate that the few primitive changes keep is kept by
every operation, every instruction and every step; the invariant of PC is one such predicate. -/

namespace Sys2Proof.Machine

/-! ### Bit 0 of an address -/

theorem getLsbD_zero_eq_false_iff {w : Nat} (a : BitVec w) : a.getLsbD 0 = false ↔ a.toNat % 2 = 0 := by
  simp [BitVec.getLsbD, Nat.testBit_zero]

/-- The sum of two even addresses is even, also where it wraps. -/
theorem even_add {a b : Addr} (ha : a.getLsbD 0 = false) (hb : b.getLsbD 0 = false) : (a + b).getLsbD 0 = false := by
  rw [getLsbD_zero_eq_false_iff] at *
  rw [BitVec.toNat_add]
  omega

theorem even_ofNat {n : Nat} (h : n % 2 = 0) : (BitVec.ofNat 20 n).getLsbD 0 = false := by
  rw [getLsbD_zero_eq_false_iff, BitVec.toNat_ofNat]
  omega

/-! ### The predicate and its primitives -/

/-- A predicate that depends on PC and the two memories only and is kept where one of them changes: PK : PC set to an
even address or moved on by an even length, a byte written in either memory. `State.pcEven` is one (10_state.md R39), and
the rules of `State.memoryOk` (log entry 4) have this shape. -/
structure StepInvariant (P : State → Prop) : Prop where
  congr : ∀ {s t : State}, t.reg.pc = s.reg.pc → t.mem = s.mem → t.prog = s.prog → P s → P t
  keeps_setPkpc : ∀ {s : State} {v : Addr}, v.getLsbD 0 = false → P s → P (s.setPkpc v)
  keeps_advance : ∀ {s : State} {n : Nat}, n % 2 = 0 → P s → P (s.advance n)
  keeps_mem : ∀ {s : State} (a : Addr) (v : Byte), P s → P { s with mem := Memory.write s.mem a.toNat v }
  keeps_prog : ∀ {s : State} (a : Addr) (v : Byte), P s → P { s with prog := Memory.write s.prog a.toNat v }

/-- The answer, where it is a next state, meets `P`. -/
def NextMeets (P : State → Prop) : Result → Prop
  | .next t => P t
  | .fault _ => True
  | .refused _ => True

theorem NextMeets.of_eq {P : State → Prop} {r : Result} {t : State} (h : NextMeets P r) (e : r = .next t) : P t := by
  rw [e] at h; exact h

/-- A predicate kept by the continuation is kept where a double bus fault may have ended the work. -/
theorem State.whileAlive_keeps {P : State → Prop} {s : State} (f : State → State) (hf : ∀ t, P t → P (f t)) (h : P s) :
    P (s.whileAlive f) := by
  unfold State.whileAlive
  split
  · exact hf s h
  · exact h

/-! ### Operand lengths are even -/

theorem memLen_even (m : Mem) : memLen m % 2 = 0 := by cases m <;> simp [memLen]

theorem src8Len_even (m : Src8) : src8Len m % 2 = 0 := by
  cases m with
  | mem m => exact memLen_even m
  | imm ii => simp [src8Len]

theorem src16Len_even (m : Src16) : src16Len m % 2 = 0 := by
  cases m with
  | mem m => exact memLen_even m
  | imm8 ii => simp [src16Len]
  | imm16 jjkk => simp [src16Len]

theorem immLen_even (v : Imm) : immLen v % 2 = 0 := by cases v <;> simp [immLen]

theorem relLen_even (r : Rel) : relLen r % 2 = 0 := by cases r <;> simp [relLen]

section
variable {P : State → Prop} (I : StepInvariant P) {s t : State}
include I

/-! ### Program counter, latches and free values -/

/-- An update that leaves PC and both memories. -/
theorem StepInvariant.unchanged (h : P s) (e : (t.reg.pc, t.mem, t.prog) = (s.reg.pc, s.mem, s.prog)) : P t := by
  simp only [Prod.mk.injEq] at e
  obtain ⟨hpc, hm, hp⟩ := e
  exact I.congr hpc hm hp h

/-- An update of other registers, then PK : PC moved past a one-word instruction. -/
theorem StepInvariant.inherent (h : P s) (e : (t.reg.pc, t.mem, t.prog) = (s.reg.pc, s.mem, s.prog)) :
    P (t.advance 2) :=
  I.keeps_advance rfl (I.unchanged h e)

theorem StepInvariant.keeps_setIZ (v : Word) (h : P s) : P (s.setIZ v) := I.unchanged h rfl

theorem StepInvariant.keeps_setBegun (v : Bool) (h : P s) : P (s.setBegun v) := I.unchanged h rfl

theorem StepInvariant.keeps_setCcr (v : Word) (h : P s) : P (s.setCcr v) := I.unchanged h rfl

theorem StepInvariant.keeps_jumpTo (a : Addr) (h : P s) : P (s.jumpTo a) :=
  I.unchanged (I.keeps_setPkpc (even_add (evenAddr_even a) rfl) h) rfl

theorem StepInvariant.keeps_branch (cond : Bool) (off : Addr) {n : Nat} (hn : n % 2 = 0) (h : P s) :
    P (s.branch cond off n) := by
  unfold State.branch
  split
  · exact I.keeps_jumpTo _ h
  · exact I.keeps_advance hn h

theorem StepInvariant.keeps_writeCcr (v : Word) (h : P s) : P (s.writeCcr v) := by
  unfold State.writeCcr
  split <;> exact I.unchanged h rfl

theorem StepInvariant.keeps_doubleBusFault (h : P s) : P s.doubleBusFault := by
  unfold State.doubleBusFault
  split
  · exact I.unchanged (I.keeps_setPkpc (s := s) (evenAddr_even (Config.freeAddr s.free)) h) rfl
  · exact I.unchanged h rfl

theorem StepInvariant.keeps_signalBusError (h : P s) : P s.signalBusError := by
  unfold State.signalBusError
  split
  · exact I.keeps_doubleBusFault h
  · exact I.unchanged h rfl

/-! ### Bus cycles -/

theorem StepInvariant.keeps_noteOperand (a : Addr) (h : P s) : P (s.noteOperand a) :=
  I.congr (by rw [(s.noteOperand_kept a).1.reg]) (s.noteOperand_kept a).2 (s.noteOperand_kept a).1.out.2 h

theorem StepInvariant.keeps_noteStale (a : Addr) (h : P s) : P (s.noteStale a) :=
  I.congr (by rw [(s.noteStale_kept a).1.reg]) (s.noteStale_kept a).2 (s.noteStale_kept a).1.out.2 h

theorem StepInvariant.keeps_read8 (a : Addr) (h : P s) : P (s.read8 a).2 := by
  have hn := I.keeps_noteOperand a h
  unfold State.read8
  cases kindAt s.plat.dataMap a.toNat with
  | ram => exact hn
  | rom => exact hn
  | romBusError => exact hn
  | device => exact I.unchanged hn rfl
  | busError => exact I.keeps_signalBusError (I.unchanged hn rfl)

theorem StepInvariant.keeps_write8 (a : Addr) (v : Byte) (h : P s) : P (s.write8 a v) := by
  have hn := I.keeps_noteOperand a h
  unfold State.write8
  cases kindAt s.plat.dataMap a.toNat with
  | ram => exact I.keeps_noteStale a (I.keeps_mem a v hn)
  | rom => exact hn
  | romBusError => exact I.keeps_signalBusError hn
  | device => exact hn
  | busError => exact I.keeps_signalBusError hn

theorem StepInvariant.keeps_progRead16 (a : Addr) (h : P s) : P (s.progRead16 a).2 := by
  unfold State.progRead16
  cases kindAt s.plat.progMap a.toNat with
  | ram => exact h
  | rom => exact h
  | romBusError => exact h
  | device => exact I.unchanged h rfl
  | busError => exact I.keeps_signalBusError h

theorem StepInvariant.keeps_read16 (a : Addr) (h : P s) : P (s.read16 a).2 :=
  I.keeps_read8 (a + 1) (I.keeps_read8 a h)

theorem StepInvariant.keeps_write16 (a : Addr) (v : Word) (h : P s) : P (s.write16 a v) :=
  I.keeps_write8 (a + 1) (lo v) (I.keeps_write8 a (hi v) h)

/-! ### Stack -/

theorem StepInvariant.keeps_push16 (v : Word) (h : P s) : P (s.push16 v) :=
  I.unchanged (I.keeps_write16 s.sksp v h) rfl

theorem StepInvariant.keeps_push8 (v : Byte) (h : P s) : P (s.push8 v) :=
  I.unchanged (I.keeps_write8 (s.sksp + 1) v h) rfl

theorem StepInvariant.keeps_pull16 (h : P s) : P s.pull16.2 :=
  I.keeps_read16 _ (I.unchanged (t := s.setSksp (s.sksp + 2)) h rfl)

theorem StepInvariant.keeps_pull8 (h : P s) : P s.pull8.2 :=
  I.unchanged (I.keeps_read8 (s.sksp + 2) h) rfl

theorem StepInvariant.keeps_pushIf (mask : Byte) (k : Nat) (v : Word) (h : P s) : P (s.pushIf mask k v) := by
  unfold State.pushIf
  split
  · exact I.keeps_push16 v h
  · exact h

theorem StepInvariant.keeps_pullIf (mask : Byte) (k : Nat) (f : State → Word → State)
    (hf : ∀ t w, P t → P (f t w)) (h : P s) : P (s.pullIf mask k f) := by
  unfold State.pullIf
  split
  · exact hf _ _ (I.keeps_pull16 h)
  · exact h

/-! ### Exceptions and reset -/

theorem StepInvariant.keeps_stackWord (v : Word) (h : P s) : P (s.stackWord v) := by
  refine State.whileAlive_keeps _ (fun t ht => ?_) (I.keeps_write8 s.sksp (hi v) h)
  exact State.whileAlive_keeps _ (fun u hu => I.unchanged hu rfl) (I.keeps_write8 _ (lo v) ht)

theorem StepInvariant.keeps_maskForHandler (l : Option (BitVec 3)) (h : P s) : P (s.maskForHandler l) :=
  I.congr (by rw [s.maskForHandler_reg l]) (s.maskForHandler_rest l).1 (s.maskForHandler_rest l).2.2.1.2 h

theorem StepInvariant.keeps_enterHandler (n : Byte) (h : P s) : P (s.enterHandler n) := by
  unfold State.enterHandler
  refine State.whileAlive_keeps _ (fun t ht => ?_) (I.keeps_read8 _ h)
  exact State.whileAlive_keeps _ (fun u hu => I.unchanged (I.keeps_jumpTo (s := u) _ hu) rfl) (I.keeps_read8 _ ht)

theorem StepInvariant.keeps_takeException (r : Addr) (n : Byte) (l : Option (BitVec 3)) (h : P s) :
    P (s.takeException r n l) := by
  refine State.whileAlive_keeps _ (fun t ht => ?_) (I.keeps_stackWord _ h)
  refine State.whileAlive_keeps _ (fun u hu => ?_) (I.keeps_stackWord _ ht)
  exact I.keeps_enterHandler n (I.keeps_maskForHandler l hu)

theorem StepInvariant.keeps_returnFromException (h : P s) : P s.returnFromException :=
  I.keeps_jumpTo _ (I.keeps_pull16 (I.keeps_writeCcr _ (I.keeps_pull16 h)))

theorem StepInvariant.keeps_applyReset (enable : Bool) (h : P s) : P (s.applyReset enable) := by
  unfold State.applyReset
  refine State.whileAlive_keeps _ (fun t0 h0 => ?_) (I.keeps_progRead16 0 (I.unchanged h rfl))
  refine State.whileAlive_keeps _ (fun t1 h1 => ?_) (I.keeps_progRead16 2 (I.unchanged h0 rfl))
  refine State.whileAlive_keeps _ (fun t2 h2 => ?_) (I.keeps_progRead16 4 (I.keeps_jumpTo _ h1))
  exact State.whileAlive_keeps _ (fun t3 h3 => I.unchanged h3 rfl) (I.keeps_progRead16 6 (I.unchanged h2 rfl))

/-! ### Shared shapes of the instructions -/

theorem StepInvariant.keeps_src8 (m : Src8) (h : P s) : P (s.src8 m).2 := by
  cases m with
  | mem m => exact I.keeps_read8 _ h
  | imm ii => exact h

theorem StepInvariant.keeps_src16 (m : Src16) (h : P s) : P (s.src16 m).2 := by
  cases m with
  | mem m => exact I.keeps_read16 _ h
  | imm8 ii => exact h
  | imm16 jjkk => exact h

/-- A byte operand is read, other registers take their values, PK : PC moves past the instruction. -/
theorem StepInvariant.after_src8 (m : Src8) (h : P s)
    (e : (t.reg.pc, t.mem, t.prog) = ((s.src8 m).2.reg.pc, (s.src8 m).2.mem, (s.src8 m).2.prog)) :
    P (t.advance (src8Len m)) :=
  I.keeps_advance (src8Len_even m) (I.unchanged (I.keeps_src8 m h) e)

/-- The same with a word operand. -/
theorem StepInvariant.after_src16 (m : Src16) (h : P s)
    (e : (t.reg.pc, t.mem, t.prog) = ((s.src16 m).2.reg.pc, (s.src16 m).2.mem, (s.src16 m).2.prog)) :
    P (t.advance (src16Len m)) :=
  I.keeps_advance (src16Len_even m) (I.unchanged (I.keeps_src16 m h) e)

theorem StepInvariant.keeps_store8 (v : Byte) (m : Mem) (h : P s) : P (s.store8 v m) :=
  I.keeps_advance (memLen_even m) (I.unchanged (I.keeps_write8 (s.ea m) v h) rfl)

theorem StepInvariant.keeps_store16 (v : Word) (m : Mem) (h : P s) : P (s.store16 v m) :=
  I.keeps_advance (memLen_even m) (I.unchanged (I.keeps_write16 (s.ea m) v h) rfl)

theorem StepInvariant.keeps_rmw8 (op : UnOp 8) (m : Mem) {n : Nat} (hn : n % 2 = 0) (h : P s) : P (s.rmw8 op m n) :=
  I.keeps_advance hn (I.unchanged (I.keeps_write8 (s.ea m) _ (I.keeps_read8 (s.ea m) h)) rfl)

theorem StepInvariant.keeps_rmw16 (op : UnOp 16) (m : Mem) {n : Nat} (hn : n % 2 = 0) (h : P s) :
    P (s.rmw16 op m n) :=
  I.keeps_advance hn (I.unchanged (I.keeps_write16 (s.ea m) _ (I.keeps_read16 (s.ea m) h)) rfl)

theorem StepInvariant.keeps_testMem8 (m : Mem) (h : P s) : P (s.testMem8 m) :=
  I.keeps_advance (memLen_even m) (I.unchanged (I.keeps_read8 (s.ea m) h) rfl)

theorem StepInvariant.keeps_testMem16 (m : Mem) (h : P s) : P (s.testMem16 m) :=
  I.keeps_advance (memLen_even m) (I.unchanged (I.keeps_read16 (s.ea m) h) rfl)

theorem StepInvariant.keeps_stackCall (r : Addr) (h : P s) : P (s.stackCall r) :=
  I.keeps_push16 _ (I.keeps_push16 _ h)

/-! ### Parts of the MAC unit's instructions -/

theorem StepInvariant.keeps_noteSignOverflow (ovf top : Bool) (h : P s) : P (s.noteSignOverflow ovf top) := by
  unfold State.noteSignOverflow
  simp only
  split
  · split <;> exact I.unchanged h rfl
  · exact h

theorem StepInvariant.keeps_accumulate (b : Acc) (h : P s) : P (s.accumulate b) :=
  I.unchanged (I.keeps_noteSignOverflow (s := s.setAM (s.mac.am + b)) _ _ (I.unchanged h rfl)) rfl

theorem StepInvariant.keeps_nextIndex (r : Word) (mask : Byte) (off : Ext) (h : P s) :
    P (s.nextIndex r mask off).2 := by
  unfold State.nextIndex
  split <;> exact I.unchanged h rfl

theorem StepInvariant.keeps_moveIndexes (xo yo : Ext) (h : P s) : P (s.moveIndexes xo yo) :=
  I.unchanged (I.keeps_nextIndex s.reg.iy s.mac.ymsk yo (I.keeps_nextIndex s.reg.ix s.mac.xmsk xo h)) rfl

theorem StepInvariant.keeps_loadHRIR (h : P s) : P s.loadHRIR :=
  I.unchanged (I.keeps_read16 _ (I.keeps_read16 s.xkix h)) rfl

end

end Sys2Proof.Machine

/-! ### Every instruction -/

namespace Sys2Proof.Machine

section
variable {P : State → Prop} (I : StepInvariant P) {s : State}
include I

/-- The end of a move with post-modification: XK : IX and the flags after the store. -/
theorem StepInvariant.after_ixp {n : Nat} (hn : n % 2 = 0) (x : Addr) (c : Word) (h : P s) :
    P (((s.setXkix x).setCcr c).advance n) :=
  I.keeps_advance hn (I.unchanged h rfl)

theorem StepInvariant.keeps_execMovb (f : MovForm) (h : P s) : NextMeets P (execMovb f s) := by
  cases f with
  | ixpToExt ff hhll => exact I.after_ixp rfl _ _ (I.keeps_write8 _ _ (I.keeps_read8 _ h))
  | extToIxp hhll ff => exact I.after_ixp rfl _ _ (I.keeps_write8 _ _ (I.keeps_read8 _ h))
  | extToExt src dst => exact I.keeps_advance rfl (I.keeps_setCcr _ (I.keeps_write8 _ _ (I.keeps_read8 _ h)))

theorem StepInvariant.keeps_execMovw (f : MovForm) (h : P s) : NextMeets P (execMovw f s) := by
  cases f with
  | ixpToExt ff hhll => exact I.after_ixp rfl _ _ (I.keeps_write16 _ _ (I.keeps_read16 _ h))
  | extToIxp hhll ff => exact I.after_ixp rfl _ _ (I.keeps_write16 _ _ (I.keeps_read16 _ h))
  | extToExt src dst => exact I.keeps_advance rfl (I.keeps_setCcr _ (I.keeps_write16 _ _ (I.keeps_read16 _ h)))

theorem StepInvariant.keeps_divideByZero (h : P s) : P s.divideByZero := by
  unfold State.divideByZero
  exact I.keeps_takeException _ _ _ (I.unchanged h (by simp))

theorem StepInvariant.keeps_divideOverflow (h : P s) : P s.divideOverflow :=
  I.unchanged h (by simp [State.divideOverflow])

theorem StepInvariant.keeps_setQuotient (q r : Word) (half : Bool) (h : P s) : P (s.setQuotient q r half) :=
  I.unchanged h rfl

theorem StepInvariant.keeps_execEdiv (h : P s) : NextMeets P (execEdiv s) := by
  unfold execEdiv
  simp only
  split
  · exact I.keeps_divideByZero h
  · split
    · exact I.keeps_advance rfl (I.keeps_divideOverflow h)
    · exact I.keeps_advance rfl (I.keeps_setQuotient _ _ _ h)

theorem StepInvariant.keeps_execEdivs (h : P s) : NextMeets P (execEdivs s) := by
  unfold execEdivs
  simp only
  split
  · exact I.keeps_divideByZero h
  · split
    · exact I.keeps_advance rfl (I.keeps_divideOverflow h)
    · exact I.keeps_advance rfl (I.keeps_setQuotient _ _ _ h)

/-- The numbers divided are made opaque: only the flow of the state matters. -/
theorem StepInvariant.keeps_execFdiv (h : P s) : NextMeets P (execFdiv s) := by
  unfold execFdiv
  extract_lets n d
  clear_value n d
  split <;> exact I.inherent h rfl

theorem StepInvariant.keeps_execIdiv (h : P s) : NextMeets P (execIdiv s) := by
  unfold execIdiv
  simp only
  split <;> exact I.inherent h rfl

theorem StepInvariant.keeps_execPshm (mask : BitVec 8) (h : P s) : NextMeets P (execPshm mask s) :=
  I.keeps_advance rfl (I.keeps_pushIf _ _ _ (I.keeps_pushIf _ _ _ (I.keeps_pushIf _ _ _ (I.keeps_pushIf _ _ _
    (I.keeps_pushIf _ _ _ (I.keeps_pushIf _ _ _ (I.keeps_pushIf _ _ _ h)))))))

theorem StepInvariant.keeps_execPulm (mask : BitVec 8) (h : P s) : NextMeets P (execPulm mask s) := by
  have h0 := I.keeps_pullIf mask 0 _ (fun t w ht => I.keeps_writeCcr (withUpper12 w t.reg.ccr) ht) h
  have h1 := I.keeps_pullIf mask 1 State.setK (fun t w ht => I.unchanged ht rfl) h0
  have h2 := I.keeps_pullIf mask 2 State.setIZ (fun t w ht => I.unchanged ht rfl) h1
  have h3 := I.keeps_pullIf mask 3 State.setIY (fun t w ht => I.unchanged ht rfl) h2
  have h4 := I.keeps_pullIf mask 4 State.setIX (fun t w ht => I.unchanged ht rfl) h3
  have h5 := I.keeps_pullIf mask 5 State.setE (fun t w ht => I.unchanged ht rfl) h4
  have h6 := I.keeps_pullIf mask 6 State.setD (fun t w ht => I.unchanged ht rfl) h5
  exact I.keeps_advance rfl (I.keeps_read16 _ h6)

theorem StepInvariant.keeps_execLpstop (h : P s) : NextMeets P (execLpstop s) := by
  unfold execLpstop
  split <;> exact I.inherent h rfl

theorem StepInvariant.keeps_execBgnd (h : P s) : NextMeets P (execBgnd s) := by
  unfold execBgnd
  split
  · exact I.unchanged (I.keeps_advance (s := s) (n := 2) rfl h) rfl
  · exact I.keeps_takeException _ _ _ h

theorem StepInvariant.keeps_execMac (xo yo : BitVec 4) (h : P s) : NextMeets P (execMac xo yo s) :=
  have accumulated := I.keeps_accumulate (macProduct s.mac.hr s.mac.ir).2.1
    (I.unchanged (t := s.setED (macProduct s.mac.hr s.mac.ir).1) h rfl)
  have loaded := I.keeps_loadHRIR (I.keeps_setIZ s.mac.hr (I.keeps_moveIndexes xo yo accumulated))
  I.inherent loaded (by simp)

/-- One iteration: PK : PC moves on after the last one only. -/
theorem StepInvariant.keeps_execRmac (xo yo : BitVec 4) (h : P s) : NextMeets P (execRmac xo yo s) := by
  have loaded := I.keeps_loadHRIR (I.keeps_moveIndexes xo yo
    (I.keeps_accumulate (macProduct s.mac.hr s.mac.ir).2.1 h))
  unfold execRmac
  simp only
  split
  · exact I.keeps_setBegun _ (I.inherent loaded (by simp))
  · exact I.unchanged loaded (by simp)

theorem StepInvariant.keeps_execPshmac (h : P s) : NextMeets P (execPshmac s) :=
  I.keeps_advance rfl (I.keeps_push16 _ (I.keeps_push16 _ (I.keeps_push16 _ (I.keeps_push16 _ (I.keeps_push16 _
    (I.keeps_push16 _ h))))))

theorem StepInvariant.keeps_execPulmac (h : P s) : NextMeets P (execPulmac s) :=
  have pulled := I.keeps_pull16 (I.keeps_pull16 (I.keeps_pull16 (I.keeps_pull16 (I.keeps_pull16 (I.keeps_pull16 h)))))
  I.inherent pulled (by simp)

/-- Every instruction keeps the predicate, in every state. The arms stand by the shape of the meaning: what it reads,
what it stores, how PK : PC moves. The last one is that of the one-word instructions without a bus access. -/
theorem StepInvariant.keeps_exec (i : Instr) (h : P s) : NextMeets P (exec i s) := by
  cases i with
  | ldaa m | ldab m | adca m | adcb m | adda m | addb m | sbca m | sbcb m | suba m | subb m | cmpa m | cmpb m
  | anda m | andb m | eora m | eorb m | oraa m | orab m | bita m | bitb m => exact I.after_src8 m h rfl
  | ldd m | lde m | adcd m | adce m | addd m | adde m | sbcd m | sbce m | subd m | sube m | cpd m | cpe m
  | andd m | ande m | eord m | eore m | ord m | ore m | cpx m | ldx m | cpy m | ldy m | cpz m | ldz m | cps m | lds m =>
    exact I.after_src16 m h rfl
  | staa m | stab m => exact I.keeps_store8 _ m h
  | std m | ste m | stx m | sty m | stz m | sts m => exact I.keeps_store16 _ m h
  | tst m => exact I.keeps_testMem8 m h
  | tstw m => exact I.keeps_testMem16 m h
  | dec m | inc m | com m | neg m | lsr m | asl m | asr m | rol m | ror m => exact I.keeps_rmw8 _ m (memLen_even m) h
  | decw m | incw m | comw m | negw m | lsrw m | aslw m | asrw m | rolw m | rorw m =>
    exact I.keeps_rmw16 _ m (memLen_even m) h
  | bclr m mm | bset m mm => exact I.keeps_rmw8 _ m rfl h
  | bclrw m mmmm | bsetw m mmmm => exact I.keeps_rmw16 _ m rfl h
  | clr m => exact I.keeps_advance (memLen_even m) (I.unchanged (I.keeps_write8 _ _ h) rfl)
  | clrw m => exact I.keeps_advance (memLen_even m) (I.unchanged (I.keeps_write16 _ _ h) rfl)
  | lded hhll => exact I.keeps_advance rfl (I.unchanged (I.keeps_read16 _ (I.keeps_read16 _ h)) rfl)
  | sted hhll => exact I.keeps_advance rfl (I.keeps_write16 _ _ (I.keeps_write16 _ _ h))
  | movb f => exact I.keeps_execMovb f h
  | movw f => exact I.keeps_execMovw f h
  | bra rr | brn rr | bcc rr | bcs rr | beq rr | bge rr | bgt rr | bhi rr | ble rr | bls rr | blt rr | bmi rr | bne rr
  | bpl rr | bvc rr | bvs rr | lbra rr | lbrn rr | lbcc rr | lbcs rr | lbeq rr | lbge rr | lbgt rr | lbhi rr | lble rr
  | lbls rr | lblt rr | lbmi rr | lbne rr | lbpl rr | lbvc rr | lbvs rr | lbev rr | lbmv rr =>
    exact I.keeps_branch _ _ rfl h
  | brclr m mm r | brset m mm r => exact I.keeps_branch _ _ (relLen_even r) (I.keeps_read8 _ h)
  | jmp j => exact I.keeps_jumpTo _ h
  | bsr rr | jsr j | lbsr rrrr => exact I.keeps_jumpTo _ (I.keeps_stackCall _ h)
  | rts => exact I.keeps_jumpTo _ (I.keeps_pull16 (I.keeps_pull16 h))
  | rti => exact I.keeps_returnFromException h
  | swi => exact I.keeps_takeException _ _ _ h
  | aix v | aiy v | aiz v | ais v => exact I.keeps_advance (immLen_even v) (I.unchanged h rfl)
  | psha | pshb => exact I.keeps_advance rfl (I.keeps_push8 _ h)
  | pula | pulb => exact I.inherent (I.keeps_pull8 h) rfl
  | pshm mask => exact I.keeps_execPshm mask h
  | pulm mask => exact I.keeps_execPulm mask h
  | andp jjkk | orp jjkk => exact I.keeps_advance rfl (I.unchanged (I.keeps_writeCcr _ h) rfl)
  | tap | tdp => exact I.inherent (I.keeps_writeCcr _ h) rfl
  | lpstop => exact I.keeps_execLpstop h
  | bgnd => exact I.keeps_execBgnd h
  | ediv => exact I.keeps_execEdiv h
  | edivs => exact I.keeps_execEdivs h
  | fdiv => exact I.keeps_execFdiv h
  | idiv => exact I.keeps_execIdiv h
  | mac xo yo => exact I.keeps_execMac xo yo h
  | rmac xo yo => exact I.keeps_execRmac xo yo h
  | ace | aced => exact I.keeps_advance rfl (I.keeps_accumulate _ h)
  | aslm => exact I.inherent (I.keeps_noteSignOverflow _ _ (I.unchanged (t := s.setAM (s.mac.am <<< 1)) h rfl)) rfl
  | ldhi => exact I.keeps_advance rfl (I.keeps_loadHRIR h)
  | pshmac => exact I.keeps_execPshmac h
  | pulmac => exact I.keeps_execPulmac h
  | tmer => exact I.inherent (I.keeps_noteSignOverflow _ _ h) rfl
  | tab | tba | tde | ted | xgab | xgde | aba | ade | sba | sde | daa | sxt | cba | tsta | tstb | tstd | tste | deca
  | decb | inca | incb | clra | clrb | clrd | clre | coma | comb | comd | come | nega | negb | negd | nege | emul
  | emuls | fmuls | mul | lsra | lsrb | lsrd | lsre | asla | aslb | asld | asle | asra | asrb | asrd | asre | rola
  | rolb | rold | role | rora | rorb | rord | rore | abx | aby | abz | adx | ady | adz | aex | aey | aez | tsx | tsy
  | tsz | txs | txy | txz | tys | tyx | tyz | tzs | tzx | tzy | xgdx | xgdy | xgdz | xgex | xgey | xgez | tbek | tbsk
  | tbxk | tbyk | tbzk | tekb | tskb | txkb | tykb | tzkb | tpa | tpd | wai | nop | asrm | clrm | tmet | tdmsk | tedm
  | tem | tmxed =>
    exact I.inherent h rfl

end

end Sys2Proof.Machine

/-! ### Background debugging mode, the instruction boundary and the step -/

namespace Sys2Proof.Machine

theorem ite_keeps {P : State → Prop} {c : Prop} [Decidable c] {s t : State} (hs : P s) (ht : P t) :
    P (if c then s else t) :=
  iteInduction (fun _ => hs) (fun _ => ht)

/-- WREGM's writes, in order, keep what each writer keeps. -/
theorem writeRegisters_keeps {P : State → Prop} {s : State} (fs : List (State → Word → State)) (ws : List Word)
    (hf : ∀ f ∈ fs, ∀ t w, P t → P (f t w)) (h : P s) : ∀ r, writeRegisters fs ws s = some r → P r.2 := by
  induction fs generalizing ws s with
  | nil =>
    intro r e
    cases e
    exact h
  | cons f fs ih =>
    intro r e
    cases ws with
    | nil => cases e
    | cons w ws =>
      exact ih ws (fun g hg => hf g (List.mem_cons_of_mem f hg)) (hf f List.mem_cons_self s w h) r e

/-- A writer that a mask bit selects. -/
theorem mem_ite_singleton {α : Type} {b : Bool} {f g : α} (h : f ∈ (if b then [g] else [])) : f = g := by
  split at h
  · exact List.mem_singleton.mp h
  · cases h

theorem State.haltedStep_keeps {P : State → Prop} {s : State} (h : P s) : NextMeets P s.haltedStep := by
  unfold State.haltedStep
  split
  · trivial
  · exact h

section
variable {P : State → Prop} (I : StepInvariant P) {s : State}
include I

theorem StepInvariant.keeps_debugRead8 (a : Addr) (h : P s) : P (s.debugRead8 a).2 := by
  unfold State.debugRead8
  cases kindAt s.plat.dataMap a.toNat with
  | ram => exact h
  | rom => exact h
  | romBusError => exact h
  | device => exact I.unchanged h rfl
  | busError => exact I.unchanged h rfl

theorem StepInvariant.keeps_debugWrite8 (a : Addr) (v : Byte) (h : P s) : P (s.debugWrite8 a v) := by
  unfold State.debugWrite8
  cases kindAt s.plat.dataMap a.toNat with
  | ram => exact I.keeps_mem a v h
  | rom => exact h
  | romBusError => exact h
  | device => exact h
  | busError => exact h

theorem StepInvariant.keeps_debugRead16 (a : Addr) (h : P s) : P (s.debugRead16 a).2 :=
  I.keeps_debugRead8 (a + 1) (I.keeps_debugRead8 a h)

theorem StepInvariant.keeps_debugWrite16 (a : Addr) (v : Word) (h : P s) : P (s.debugWrite16 a v) :=
  I.keeps_debugWrite8 (a + 1) (lo v) (I.keeps_debugWrite8 a (hi v) h)

theorem StepInvariant.keeps_storeProg (a : Addr) (v : Byte) (h : P s) : P (s.storeProg a.toNat v) := by
  unfold State.storeProg
  split
  · exact I.keeps_prog a v h
  · exact I.keeps_mem a v h

theorem StepInvariant.keeps_debugReadProg (a : Addr) (h : P s) : P (s.debugReadProg a).2 := by
  unfold State.debugReadProg
  simp only
  cases kindAt s.plat.progMap (evenAddr a).toNat with
  | ram => exact h
  | rom => exact h
  | romBusError => exact h
  | device => exact I.unchanged h rfl
  | busError => exact I.unchanged h rfl

theorem StepInvariant.keeps_debugWriteProg (a : Addr) (v : Word) (h : P s) : P (s.debugWriteProg a v) := by
  unfold State.debugWriteProg
  simp only
  cases kindAt s.plat.progMap (evenAddr a).toNat with
  | ram => exact I.keeps_storeProg _ _ (I.keeps_storeProg _ _ h)
  | rom => exact h
  | romBusError => exact h
  | device => exact h
  | busError => exact h

theorem StepInvariant.keeps_reply (w : BitVec 17) (h : P s) : P (s.reply w) := I.unchanged h rfl

theorem StepInvariant.keeps_takeWords (n : Nat) (ws : List Word) (h : P s) : P (s.takeWords n ws) := I.unchanged h rfl

/-- A register's word is sent or not. -/
theorem StepInvariant.keeps_replyIf (b : Bool) (w : Word) (h : P s) : P (if b then s.replyData w else s) := by
  split
  · exact I.keeps_reply _ h
  · exact h

theorem StepInvariant.keeps_readRegisters (mask : Word) (h : P s) : P (s.readRegisters mask) := by
  have sent : P (if mask.getLsbD 0 then
      s.freshWord.2.replyData (BitVec.extractLsb' 4 12 s.reg.ccr ++ nib0 s.freshWord.1) else s) := by
    split
    · exact I.unchanged h rfl
    · exact h
  exact I.keeps_reply _ (I.keeps_replyIf _ _ (I.keeps_replyIf _ _ (I.keeps_replyIf _ _ (I.keeps_replyIf _ _
    (I.keeps_replyIf _ _ (I.keeps_replyIf _ _ sent))))))

theorem StepInvariant.keeps_selectedWriters (mask : Word) : ∀ f ∈ selectedWriters mask, ∀ t w, P t → P (f t w) := by
  intro f hf t w ht
  simp only [selectedWriters, List.mem_append] at hf
  rcases hf with (((((h0 | h1) | h2) | h3) | h4) | h5) | h6
  · rw [mem_ite_singleton h0]; exact I.keeps_writeCcr _ ht
  · rw [mem_ite_singleton h1]; exact I.unchanged ht rfl
  · rw [mem_ite_singleton h2]; exact I.unchanged ht rfl
  · rw [mem_ite_singleton h3]; exact I.unchanged ht rfl
  · rw [mem_ite_singleton h4]; exact I.unchanged ht rfl
  · rw [mem_ite_singleton h5]; exact I.unchanged ht rfl
  · rw [mem_ite_singleton h6]; exact I.unchanged ht rfl

theorem StepInvariant.keeps_readMac (h : P s) : P s.readMac :=
  I.keeps_reply _ (I.keeps_reply _ (I.keeps_reply _ (I.keeps_reply _ (I.keeps_reply _ (I.keeps_reply _
    (I.unchanged (t := s.freshWord.2) h rfl))))))

theorem StepInvariant.keeps_readPcSp (h : P s) : P s.readPcSp :=
  I.keeps_reply _ (I.keeps_reply _ (I.keeps_reply _ (I.keeps_reply _ (I.unchanged (t := s.freshWord.2.freshWord.2) h rfl))))

theorem StepInvariant.keeps_readData (w1 w2 : Word) (h : P s) : P (s.readData w1 w2) := by
  unfold State.readData
  simp only
  split
  · exact I.keeps_reply _ (I.keeps_reply _ (I.keeps_debugRead16 _ (I.keeps_debugRead16 _ h)))
  · split
    · exact I.keeps_reply _ (I.keeps_debugRead16 _ h)
    · exact I.keeps_reply _ (I.keeps_debugRead8 _ h)

/-- Each command by its operation word; one whose words have not all come changes nothing. -/
theorem StepInvariant.keeps_debugStep (h : P s) : P s.debugStep := by
  have taken (n : Nat) (ws : List Word) : P (s.takeWords n ws) := I.keeps_takeWords n ws h
  unfold State.debugStep
  cases s.plat.bdmIn with
  | nil => exact h
  | cons op rest =>
    have t : P (s.setBdmIn rest) := I.unchanged h rfl
    refine ite_keeps ?rregm (ite_keeps ?wregm (ite_keeps ?rpcsp (ite_keeps ?wpcsp (ite_keeps ?rdmem (ite_keeps ?wdmem
      (ite_keeps ?rpmem (ite_keeps ?wpmem (ite_keeps ?go (ite_keeps ?nop (ite_keeps ?rdmac
      (ite_keeps ?wrmac ?illegal)))))))))))
    case rregm =>
      split
      · exact I.keeps_readRegisters _ (taken _ _)
      · exact h
    case wregm =>
      split
      · next mask ws =>
        split
        · next r e => exact I.keeps_reply _ (I.keeps_takeWords _ _
            (writeRegisters_keeps _ _ (I.keeps_selectedWriters mask) h r e))
        · exact h
      · exact h
    case rpcsp => exact I.keeps_readPcSp t
    case wpcsp =>
      split
      · next ws => exact I.unchanged (I.keeps_setPkpc (evenAddr_even _) (taken 4 ws)) rfl
      · exact h
    case rdmem =>
      split
      · exact I.keeps_readData _ _ (taken _ _)
      · exact h
    case wdmem =>
      split
      · refine ite_keeps ?long (ite_keeps ?word ?byte)
        case long =>
          split
          · exact I.keeps_reply _ (I.keeps_debugWrite16 _ _ (I.keeps_debugWrite16 _ _ (taken _ _)))
          · exact h
        case word => exact I.keeps_reply _ (I.keeps_debugWrite16 _ _ (taken _ _))
        case byte => exact I.keeps_reply _ (I.keeps_debugWrite8 _ _ (taken _ _))
      · exact h
    case rpmem =>
      split
      · exact I.keeps_reply _ (I.keeps_debugReadProg _ (taken _ _))
      · exact h
    case wpmem =>
      split
      · exact I.keeps_reply _ (I.keeps_debugWriteProg _ _ (taken _ _))
      · exact h
    case go => exact I.unchanged t rfl
    case nop => exact I.keeps_reply _ t
    case rdmac => exact I.keeps_readMac t
    case wrmac =>
      split
      · exact I.unchanged h rfl
      · exact h
    case illegal => exact I.keeps_reply _ t

theorem StepInvariant.keeps_takeInput (h : P s) : P s.takeInput.2 := by
  have lines (l : IrqLines) (rest : List Input) : P ((s.setInputs rest).setLines l) := by
    obtain ⟨-, -, hr, -, hm, hp⟩ := (s.setInputs rest).setLines_spec l
    exact I.congr (s := s) (by rw [hr]; rfl) hm hp h
  unfold State.takeInput
  split
  · exact h
  · exact lines _ _
  · exact I.unchanged (lines _ _) rfl
  · exact I.unchanged h rfl

theorem StepInvariant.keeps_afterPrefetch (f : State → State) (hf : ∀ t, P t → P (f t)) (h : P s) :
    P (s.afterPrefetch f) :=
  State.whileAlive_keeps f hf (I.keeps_progRead16 _ h)

theorem StepInvariant.keeps_takeInterrupt (l : BitVec 3) (h : P s) : P (s.takeInterrupt l) :=
  I.keeps_afterPrefetch _ (fun _ ht => I.keeps_takeException _ _ _ ht) (I.unchanged h rfl)

theorem StepInvariant.keeps_takeBusError (h : P s) : P s.takeBusError :=
  I.keeps_afterPrefetch _ (fun _ ht => I.keeps_takeException _ _ _ (I.unchanged ht rfl)) h

theorem StepInvariant.keeps_takeBreakpoint (h : P s) : P s.takeBreakpoint := by
  unfold State.takeBreakpoint
  simp only
  split
  · exact I.unchanged h rfl
  · exact I.keeps_afterPrefetch _ (fun _ ht => I.keeps_takeException _ _ _ (I.unchanged ht rfl)) (I.unchanged h rfl)

theorem StepInvariant.keeps_fetchMore (a : Addr) (h : P s) : P (s.fetchMore a).2 := by
  unfold State.fetchMore
  split
  · exact I.keeps_progRead16 a h
  · exact h

theorem StepInvariant.keeps_fetch (h : P s) : P s.fetch.2 :=
  I.keeps_fetchMore _ (I.keeps_fetchMore _ (I.keeps_progRead16 s.ia h))

theorem StepInvariant.keeps_closeWindow (h : P s) : P s.closeWindow := by
  unfold State.closeWindow
  split
  · exact I.unchanged h rfl
  · exact h

theorem StepInvariant.keeps_noteTag (tagged : Bool) (h : P s) : P (s.noteTag tagged) := by
  unfold State.noteTag
  split
  · exact I.unchanged h rfl
  · exact h

theorem StepInvariant.keeps_runWords (w0 w1 w2 : Word) (h : P s) : NextMeets P (s.runWords w0 w1 w2) := by
  unfold State.runWords
  simp only
  cases decode w0 w1 w2 with
  | error e =>
    simp only
    split
    · trivial
    · exact I.keeps_noteTag _ (I.keeps_takeException _ _ _ h)
  | ok i =>
    have executed := I.keeps_exec i h
    simp only
    split
    · trivial
    · cases hx : exec i s with
      | next t => exact I.keeps_noteTag _ (executed.of_eq hx)
      | fault f => trivial
      | refused r => trivial

theorem StepInvariant.keeps_executeNext (h : P s) : NextMeets P s.executeNext := by
  unfold State.executeNext
  simp only
  split
  · exact I.keeps_runWords _ _ _ (I.keeps_closeWindow (I.keeps_fetch h))
  · exact I.keeps_fetch h

theorem StepInvariant.keeps_boundary (h : P s) : NextMeets P s.boundary := by
  unfold State.boundary
  split
  · exact I.keeps_takeBusError h
  · split
    · exact I.keeps_takeBreakpoint h
    · split
      · exact I.keeps_executeNext (I.unchanged h rfl)
      · split
        · exact I.keeps_takeInterrupt _ h
        · exact I.keeps_executeNext h

theorem StepInvariant.keeps_idleUntil (ip : BitVec 3) (h : P s) : P (s.idleUntil ip) := by
  unfold State.idleUntil
  split
  · exact I.keeps_takeInterrupt _ h
  · exact h

theorem StepInvariant.keeps_stoppedStep (h : P s) : P s.stoppedStep := by
  unfold State.stoppedStep
  split
  · exact I.keeps_idleUntil _ h
  · split
    · exact I.keeps_idleUntil _ h
    · exact h

theorem StepInvariant.keeps_stepRun (h : P s) : NextMeets P s.stepRun := by
  unfold State.stepRun
  cases s.ctl.run with
  | running => exact I.keeps_boundary h
  | stopped => exact I.keeps_stoppedStep h
  | waiting => exact I.keeps_idleUntil _ h
  | halted => exact State.haltedStep_keeps h
  | background => exact I.keeps_debugStep h

/-- The induction step of every such invariant: a step keeps the predicate. -/
theorem StepInvariant.keeps_step (h : P s) : NextMeets P (step s) := by
  have taken := I.keeps_takeInput h
  unfold step
  split
  case h_1 b t e => rw [e] at taken; exact I.keeps_applyReset b taken
  case h_2 t e => rw [e] at taken; exact I.keeps_stepRun taken

end

/-! ### Bit 0 of PC -/

theorem pcEven_iff (s : State) : s.pcEven = true ↔ s.reg.pc.getLsbD 0 = false := by
  simp [State.pcEven]

theorem getLsbD_zero_offset (a : Addr) : (offset a).getLsbD 0 = a.getLsbD 0 := by
  simp [offset]

theorem getLsbD_zero_pkpc (s : State) : s.pkpc.getLsbD 0 = s.reg.pc.getLsbD 0 := by
  rw [← getLsbD_zero_offset, State.pkpc, offset_pair]

/-- PC is even after it is set to an even address, and moves by even lengths (10_state.md R39, R41). -/
theorem pcEven_stepInvariant : StepInvariant fun s => s.pcEven = true where
  congr hpc _ _ h := by
    rw [pcEven_iff] at *
    rw [hpc]; exact h
  keeps_setPkpc hv _ := by
    rw [pcEven_iff, State.setPkpc_reg_pc, getLsbD_zero_offset]
    exact hv
  keeps_advance hn h := by
    rw [pcEven_iff, ← getLsbD_zero_pkpc] at *
    rw [State.pkpc_advance]
    exact even_add h (even_ofNat hn)
  keeps_mem _ _ h := h
  keeps_prog _ _ h := h

/-- Settles O9: PC's bit 0 is an invariant of the step. -/
theorem stepKeepsPcEven : Obligations.StepKeepsPcEven :=
  fun _ _ h e => (pcEven_stepInvariant.keeps_step h).of_eq e

end Sys2Proof.Machine

/-! ### Reset -/

namespace Sys2Proof.Machine

/-- Neither memory lists a byte at reset (log entry 4). -/
theorem reset_memoryOk : State.reset.memoryOk = true := rfl

/-- PC is 6 at reset: address $00000 plus the bias (10_state.md R40). -/
theorem reset_pcEven : State.reset.pcEven = true := rfl

/-- Settles O10: both invariants hold after reset. -/
theorem resetMeetsInvariants : Obligations.ResetMeetsInvariants := ⟨reset_memoryOk, reset_pcEven⟩

/-- A reset that arrives is applied before the run state is looked at (60_exceptions.md R761). -/
theorem step_of_reset (s : State) (enable : Bool) (rest : List Input) (h : s.plat.inputs = .reset enable :: rest) :
    step s = .next ((s.setInputs rest).applyReset enable) := by
  simp [step, State.takeInput, h]

/-! What `State.resetRegisters` leaves, and the CCR that it makes: S and IP set, SM clear, the other bits kept. -/

@[simp] theorem State.resetRegisters_mac (s : State) (enable : Bool) : (s.resetRegisters enable).mac = s.mac := rfl
@[simp] theorem State.resetRegisters_plat (s : State) (enable : Bool) : (s.resetRegisters enable).plat = s.plat := rfl
@[simp] theorem State.resetRegisters_mem (s : State) (enable : Bool) : (s.resetRegisters enable).mem = s.mem := rfl
@[simp] theorem State.resetRegisters_prog (s : State) (enable : Bool) : (s.resetRegisters enable).prog = s.prog := rfl
@[simp] theorem State.resetRegisters_ctl (s : State) (enable : Bool) : (s.resetRegisters enable).ctl =
    { s.ctl with
      run := .running, berrLatch := false, berrWindow := true, bkptLatch := false, nmiLatch := false, inhibit := false,
      bdmFlag := enable } := rfl

theorem getLsbD_resetRegisters_ccr (s : State) (enable : Bool) (k : Nat) (hk : k < 16) :
    (s.resetRegisters enable).reg.ccr.getLsbD k =
      if k = 15 then true else if 5 ≤ k ∧ k < 8 then true else if k = 4 then false else s.reg.ccr.getLsbD k := by
  have h7 : ∀ j < 3, (7#3).getLsbD j = true := by decide
  simp only [State.resetRegisters, fieldPK, BitVec.getLsbD_append, BitVec.getLsbD_extractLsb']
  grind

theorem flagS_resetRegisters (s : State) (enable : Bool) : flagS (s.resetRegisters enable).reg.ccr = true :=
  getLsbD_resetRegisters_ccr s enable 15 (by decide)

theorem flagSM_resetRegisters (s : State) (enable : Bool) : flagSM (s.resetRegisters enable).reg.ccr = false :=
  getLsbD_resetRegisters_ccr s enable 4 (by decide)

theorem fieldIP_resetRegisters (s : State) (enable : Bool) : fieldIP (s.resetRegisters enable).reg.ccr = 7 := by
  have h7 : ∀ j < 3, (7 : BitVec 3).getLsbD j = true := by decide
  apply BitVec.eq_of_getLsbD_eq
  intro i hi
  rw [fieldIP, BitVec.getLsbD_extractLsb', getLsbD_resetRegisters_ccr s enable (5 + i) (by omega), h7 i hi]
  grind

theorem ccrKept_resetRegisters (s : State) (enable : Bool) : CcrKept [4, 5, 6, 7, 15] s (s.resetRegisters enable) := by
  intro k h4 h16 hk
  rw [getLsbD_resetRegisters_ccr s enable k h16]
  grind

/-- PK does not count as a bit of the CCR. -/
theorem CcrKept.of_withPK {bits : List Nat} {s t u : State} {k : Ext} (h : CcrKept bits s t)
    (e : u.reg.ccr = withPK k t.reg.ccr) : CcrKept bits s u := by
  intro n h4 h16 hn
  rw [e, getLsbD_withPK, if_neg (by omega)]
  exact h n h4 h16 hn

theorem DataKept.of_mem {s t : State} (h : t.mem = s.mem) : DataKept s t := fun a => by
  rw [State.dataByte, h]; rfl

/-- What reset processing leaves when all four vector words answer: `z` is the first word
(70_reset_and_hazards.md R820). -/
def State.resetLoaded (s : State) (enable : Bool) : State :=
  let z := s.progWord 0
  let r := s.resetRegisters enable
  let loaded := ((r.setZK (BitVec.extractLsb' 8 4 z)).setSK (BitVec.extractLsb' 4 4 z)).setCcr
    (withPK (BitVec.extractLsb' 0 4 z) r.reg.ccr)
  ((loaded.jumpTo (pair (BitVec.extractLsb' 0 4 z) (s.progWord 2))).setSP (s.progWord 4)).setIZ (s.progWord 6)

/-- Reset processing reads the four words of the vector in order, and none of the registers it loads on the way changes
what program space answers. -/
theorem applyReset_memory (s : State) (enable : Bool) (h0 : s.fetchable 0 = true) (h2 : s.fetchable 2 = true)
    (h4 : s.fetchable 4 = true) (h6 : s.fetchable 6 = true) : s.applyReset enable = s.resetLoaded enable := by
  have read (t : State) (a : Addr) (hm : t.mem = s.mem) (hp : t.prog = s.prog) (hplat : t.plat = s.plat)
      (ha : s.fetchable a = true) : t.progRead16 a = (s.progWord a, t) := by
    rw [t.progRead16_memory a (by rw [State.fetchable, hplat]; exact ha)]
    simp only [State.progWord, State.progByte, State.progMem, hm, hp, hplat]
  have alive (t : State) (f : State → State) (hr : t.ctl.run = .running) : t.whileAlive f = f t :=
    t.whileAlive_of_alive f (by simp [State.alive, hr])
  unfold State.applyReset
  simp only
  rw [read _ 0 ?_ ?_ ?_ h0, alive _ _ ?_, read _ 2 ?_ ?_ ?_ h2, alive _ _ ?_, read _ 4 ?_ ?_ ?_ h4, alive _ _ ?_,
    read _ 6 ?_ ?_ ?_ h6, alive _ _ ?_] <;> simp [State.resetLoaded]

/-- Settles O11: a reset is taken from the inputs first, and then `applyReset_memory` says every field. -/
theorem resetApplies : Obligations.ResetApplies := by
  refine ⟨step_of_reset, fun s enable h0 h2 h4 h6 => ?_⟩
  rw [applyReset_memory s enable h0 h2 h4 h6]
  have hccr : (s.resetLoaded enable).reg.ccr = withPK _ (s.resetRegisters enable).reg.ccr := withPK_withPK _ _ _
  refine ⟨?reg, ?ia, ?ip, ?s, ?sm, (ccrKept_resetRegisters s enable).of_withPK hccr, ?mac, ?ctl, ?data, ?outside⟩
  case reg =>
    simp [State.resetLoaded, State.reg_setIZ, State.reg_setSP, State.reg_jumpTo, State.reg_setCcr, State.reg_setSK,
      State.reg_setZK, State.resetRegisters]
  case ia => exact State.ia_jumpTo _ _
  case ip => rw [hccr, fieldIP_withPK, fieldIP_resetRegisters]
  case s => rw [hccr, flagS_withPK, flagS_resetRegisters]
  case sm => rw [hccr, flagSM_withPK, flagSM_resetRegisters]
  case mac => simp [State.resetLoaded]
  case ctl => simp [State.resetLoaded]
  case data => exact DataKept.of_mem (by simp [State.resetLoaded])
  case outside => exact ⟨by simp [State.resetLoaded], by simp [State.resetLoaded]⟩

/-- Over memory that lists nothing the vector words are $0000, and reset processing leaves `State.reset` as it is (log
entry 3). -/
theorem applyReset_reset : State.reset.applyReset false = State.reset := by
  rw [applyReset_memory _ _ rfl rfl rfl rfl]
  decide

/-- Settles O12: the fields by evaluation, the last by `applyReset_reset`. -/
theorem resetState : Obligations.ResetState :=
  ⟨rfl, rfl, rfl, rfl, rfl, rfl, rfl, rfl, applyReset_reset⟩

/-! ### Stack primitives -/

/-- SK : SP of registers whose pair was replaced. -/
theorem State.sksp_of_withS {s : State} {r : Regs} {v : Addr} (h : s.reg = r.withS v) : s.sksp = v := by
  rw [State.sksp, h]
  exact pair_bank_offset v

theorem readable_of_readableFrom_two {s : State} {a : Addr} (h : s.readableFrom a 2 = true) :
    s.readable a = true ∧ s.readable (a + 1) = true := by
  simpa [State.readableFrom, List.range_succ] using h

/-- Settles O44: the rules of the four operations, read for SK : SP and memory. -/
theorem stackPrimitives : Obligations.StackPrimitives := by
  intro s hs
  refine ⟨fun v => ?push16, fun v => ?push8, ?pull16, ?pull8⟩
  case push16 =>
    obtain ⟨stored, hreg, -⟩ := s.push16_spec v hs
    exact ⟨stored, State.sksp_of_withS hreg⟩
  case push8 =>
    obtain ⟨stored, hreg, -⟩ := s.push8_spec v hs
    exact ⟨stored, State.sksp_of_withS hreg⟩
  case pull16 =>
    obtain ⟨hreg, -, -, -, hmem, hval⟩ := s.pull16_spec hs
    refine ⟨State.sksp_of_withS hreg, DataKept.of_mem hmem, fun h => ?_⟩
    obtain ⟨h0, h1⟩ := readable_of_readableFrom_two h
    exact hval h0 h1
  case pull8 =>
    obtain ⟨hreg, -, -, -, hmem, hval⟩ := s.pull8_spec hs
    exact ⟨State.sksp_of_withS hreg, DataKept.of_mem hmem, hval⟩

end Sys2Proof.Machine

/-! ### Canonical memories -/

namespace Sys2Proof.Machine

/-- The canonical form of both memories (log entry 4): only a write of a byte touches it. -/
theorem memoryOk_stepInvariant : StepInvariant fun s => s.memoryOk = true where
  congr _ hm hp h := (State.memoryOk_congr hm hp).trans h
  keeps_setPkpc _ h := h
  keeps_advance _ h := h
  keeps_mem {s} a v h := s.memoryOk_mem a.toNat v a.isLt h
  keeps_prog {s} a v h := s.memoryOk_prog a.toNat v a.isLt h

/-- Settles O8: the canonical form is an invariant of the step. -/
theorem stepKeepsMemoryCanonical : Obligations.StepKeepsMemoryCanonical :=
  fun _ _ h e => (memoryOk_stepInvariant.keeps_step h).of_eq e

end Sys2Proof.Machine

/-! ### Reads and stores of data space -/

namespace Sys2Proof.Machine

/-- Where memory answers, a read cycle returns the byte there. -/
theorem State.byteAt_of_readable {s : State} {a : Addr} (h : s.readable a = true) : s.byteAt a = s.dataByte a :=
  congrArg Prod.fst (s.read8_memory a h)

/-- Where memory answers at both bytes, reading a word returns the two, high byte first (20_memory.md R96). -/
theorem State.wordAt_of_readable {s : State} {a : Addr} (h : s.readable a = true) (h' : s.readable (a + 1) = true) :
    s.wordAt a = s.dataWord a := by
  obtain ⟨-, -, hval, -⟩ := s.read16_memory_spec a h h'
  exact hval

/-- Where RAM answered before bus cycles that keep the platform, memory answers after them. -/
theorem BusKept.readable_of_writable {s t : State} (k : BusKept s t) {a : Addr} (h : s.writable a = true) :
    t.readable a = true :=
  (k.readable a).trans (s.readable_of_writable a h)

/-- A byte stored in RAM is read back (20_memory.md R94). -/
theorem State.byteAt_write8 {s : State} {a : Addr} (v : Byte) (hs : s.executing = true) (h : s.writable a = true) :
    (s.write8 a v).byteAt a = v := by
  obtain ⟨kept, stored⟩ := s.write8_spec a v hs
  rw [State.byteAt_of_readable (kept.readable_of_writable h), stored a, if_pos ⟨rfl, h⟩]

/-- After a word was stored in RAM, memory holds its high byte at the address and its low byte behind it. -/
theorem StoresWord.dataByte_eq {s t : State} {a : Addr} {v : Word} (stored : StoresWord s t a v)
    (h : s.writable a = true) (h' : s.writable (a + 1) = true) :
    t.dataByte a = hi v ∧ t.dataByte (a + 1) = lo v := by
  constructor
  · rw [stored a, if_pos ⟨rfl, h⟩]
  · rw [stored (a + 1), if_neg (fun c => add_one_ne a c.1), if_pos ⟨rfl, h'⟩]

/-- A word stored in RAM is read back, as a word and as its two bytes (20_memory.md R94, R96). -/
theorem State.wordAt_write16 {s : State} {a : Addr} (v : Word) (hs : s.executing = true) (h : s.writable a = true)
    (h' : s.writable (a + 1) = true) :
    (s.write16 a v).wordAt a = v ∧ (s.write16 a v).byteAt a = hi v ∧ (s.write16 a v).byteAt (a + 1) = lo v := by
  obtain ⟨kept, stored⟩ := s.write16_spec a v hs
  obtain ⟨high, low⟩ := stored.dataByte_eq h h'
  have ra := kept.readable_of_writable h
  have rb := kept.readable_of_writable h'
  refine ⟨?_, (State.byteAt_of_readable ra).trans high, (State.byteAt_of_readable rb).trans low⟩
  rw [State.wordAt_of_readable ra rb, State.dataWord, high, low, word_hi_lo]

/-- Settles O13: the rules of stores give the frame and the bytes read back. -/
theorem readAfterWrite : Obligations.ReadAfterWrite := by
  intro s a hs
  refine ⟨fun v => ?byte, fun v => ?word, fun h => ?read⟩
  case byte => exact ⟨(s.write8_spec a v hs).2, State.byteAt_write8 v hs⟩
  case word => exact ⟨(s.write16_spec a v hs).2, State.wordAt_write16 v hs⟩
  case read => exact ⟨State.byteAt_of_readable h, State.wordAt_of_readable h⟩

end Sys2Proof.Machine

/-! ### Effective addresses and operands -/

namespace Sys2Proof.Machine

/-- An extension field and a register as one number (20_memory.md R90). -/
theorem toNat_pair (k : Ext) (r : Word) : (pair k r).toNat = 65536 * k.toNat + r.toNat := by
  rw [pair, BitVec.toNat_append, ← Nat.shiftLeft_add_eq_or_of_lt r.isLt, Nat.shiftLeft_eq]
  omega

theorem toNat_zext20 {w : Nat} (hw : w ≤ 20) (v : BitVec w) : (zext20 v).toNat = v.toNat :=
  BitVec.toNat_setWidth_of_le hw

/-- An address plus an unsigned offset, modulo 2^20 (D3). -/
theorem toNat_add_zext20 {w : Nat} (hw : w ≤ 20) (a : Addr) (v : BitVec w) :
    (a + zext20 v).toNat = (a.toNat + v.toNat) % 2 ^ 20 := by
  rw [BitVec.toNat_add, toNat_zext20 hw]

/-- An address plus a signed offset, modulo 2^20 (D3). -/
theorem toNat_add_sext20 {w : Nat} (a : Addr) (v : BitVec w) :
    ((a + sext20 v).toNat : Int) = ((a.toNat : Int) + v.toInt) % 2 ^ 20 := by
  rw [BitVec.toNat_add, sext20, BitVec.signExtend, BitVec.toNat_ofInt]
  omega

/-- Settles O15: each form is a pair, or a sum modulo 2^20; each operand is what its read returns. -/
theorem addressesAndOperands : Obligations.AddressesAndOperands := by
  refine ⟨fun s i ff w b off => ?addresses, fun s m ii jjkk => ?operands⟩
  case addresses =>
    intro base index
    have hbase : (s.indexPair i).toNat = base := by cases i <;> exact toNat_pair _ _
    have hindex : (s.indexReg i).toNat = index := by cases i <;> rfl
    rw [← hbase, ← hindex]
    refine ⟨?ind8, ?ind16, ?ext, ?eoff, ?ext20, ?ind20⟩
    case ind8 => exact toNat_add_zext20 (by decide) _ ff
    case ind16 => exact toNat_add_sext20 _ w
    case ext => exact toNat_pair _ w
    case eoff => exact toNat_add_sext20 _ s.reg.e
    case ext20 => exact toNat_pair b w
    case ind20 => rw [State.jumpAddr, BitVec.toNat_add, toNat_zext20 (by decide)]
  case operands =>
    have signed : (ii.signExtend 16).toInt = ii.toInt := BitVec.toInt_signExtend_of_le (by decide)
    exact ⟨rfl, rfl, signed, State.byteAt_of_readable, State.wordAt_of_readable⟩

end Sys2Proof.Machine


/-! ### Looking up an opcode

A page is searched from its first row (30_encoding.md R154). Its rows stand by the upper nibble of the key, so the
search can begin at the nibble's own rows. -/

namespace Sys2Proof

/-- Page 0 by the upper nibble of the opcode (30_encoding.md R160). -/
def page0Rows : List (List Row) :=
  [page0Row0, page0Row1, page0Row2, page0Row3, page0Row4, page0Row5, page0Row6, page0Row7, page0Row8, page0Row9,
   page0RowA, page0RowB, page0RowC, page0RowD, page0RowE, page0RowF]

/-- Page 1 by the upper nibble of the opcode (30_encoding.md R161). -/
def page1Rows : List (List Row) :=
  [page1Row0, page1Row1, page1Row2, page1Row3, page1Row4, page1Row5, page1Row6, page1Row7, page1Row8, page1Row9,
   page1RowA, page1RowB, page1RowC, page1RowD, page1RowE, page1RowF]

/-- Page 2 by the upper nibble of the opcode (30_encoding.md R162). -/
def page2Rows : List (List Row) :=
  [page2Row0, page2Row1, page2Row2, page2Row3, page2Row4, page2Row5, page2Row6, page2Row7, page2Row8, page2Row9,
   page2RowA, page2RowB, page2RowC, page2RowD, page2RowE, page2RowF]

/-- Page 3 by the upper nibble of the opcode (30_encoding.md R163). -/
def page3Rows : List (List Row) :=
  [page3Row0, page3Row1, page3Row2, page3Row3, page3Row4, page3Row5, page3Row6, page3Row7, page3Row8, page3Row9,
   page3RowA, page3RowB, page3RowC, page3RowD, page3RowE, page3RowF]

/-- Each list of rows holds the keys of one upper nibble, from `n` on. -/
def nibblesFrom : Nat → List (List Row) → Bool
  | _, [] => true
  | n, rows :: rest => rows.all (fun r => r.1.toNat / 16 == n) && nibblesFrom (n + 1) rest

/-- The row that a key selects, looked for among the rows of its upper nibble only. -/
def lookup (rows : List (List Row)) (k : Byte) : Option (Word → Word → Word → Instr) :=
  findRow k (rows.getD (k.toNat / 16) [])

theorem findRow_append_of_some {k : Byte} {xs ys : List Row} {f : Word → Word → Word → Instr}
    (h : findRow k xs = some f) : findRow k (xs ++ ys) = some f := by
  induction xs with
  | nil => cases h
  | cons r xs ih =>
    rw [List.cons_append]
    by_cases hk : r.1 = k
    · rwa [findRow, if_pos hk] at h ⊢
    · rw [findRow, if_neg hk] at h ⊢
      exact ih h

theorem findRow_append_of_ne {k : Byte} {xs ys : List Row} (h : ∀ r ∈ xs, r.1 ≠ k) :
    findRow k (xs ++ ys) = findRow k ys := by
  induction xs with
  | nil => rfl
  | cons r xs ih =>
    rw [List.cons_append, findRow, if_neg (h r List.mem_cons_self)]
    exact ih fun q hq => h q (List.mem_cons_of_mem r hq)

/-- What stands among the rows of the key's nibble is found from the first row on. -/
theorem findRow_flatten {k : Byte} {f : Word → Word → Word → Instr} (rows : List (List Row)) (n : Nat)
    (hr : nibblesFrom n rows = true) (hn : n ≤ k.toNat / 16)
    (h : findRow k (rows.getD (k.toNat / 16 - n) []) = some f) : findRow k rows.flatten = some f := by
  induction rows generalizing n with
  | nil => cases h
  | cons xs rest ih =>
    simp only [nibblesFrom, Bool.and_eq_true, List.all_eq_true, beq_iff_eq] at hr
    obtain ⟨hxs, hrest⟩ := hr
    rw [List.flatten_cons]
    by_cases e : k.toNat / 16 = n
    · rw [e, Nat.sub_self, List.getD_cons_zero] at h
      exact findRow_append_of_some h
    · have other : ∀ r ∈ xs, r.1 ≠ k := fun r hrx hk => e (by rw [← hk, hxs r hrx])
      rw [findRow_append_of_ne other]
      refine ih (n + 1) hrest (by omega) ?_
      rwa [show k.toNat / 16 - n = k.toNat / 16 - (n + 1) + 1 by omega, List.getD_cons_succ] at h

theorem findRow_of_lookup {rows : List (List Row)} {k : Byte} {f : Word → Word → Word → Instr}
    (hr : nibblesFrom 0 rows = true) (h : lookup rows k = some f) : findRow k rows.flatten = some f :=
  findRow_flatten rows 0 hr (Nat.zero_le _) h

theorem page0_eq : page0 = page0Rows.flatten := by simp [page0, page0Rows]
theorem page1_eq : page1 = page1Rows.flatten := by simp [page1, page1Rows]
theorem page2_eq : page2 = page2Rows.flatten := by simp [page2, page2Rows]
theorem page3_eq : page3 = page3Rows.flatten := by simp [page3, page3Rows]

theorem page0_nibbles : nibblesFrom 0 page0Rows = true := by decide
theorem page1_nibbles : nibblesFrom 0 page1Rows = true := by decide
theorem page2_nibbles : nibblesFrom 0 page2Rows = true := by decide
theorem page3_nibbles : nibblesFrom 0 page3Rows = true := by decide

/-- On page 0 the opcode is the high byte; no prebyte has a row there (30_encoding.md R154). -/
theorem selectRow_page0 {k b : Byte} {f : Word → Word → Word → Instr} (h : lookup page0Rows k = some f) :
    selectRow (word k b) = some f := by
  have h1 : k ≠ 0x17 := by rintro rfl; cases h
  have h2 : k ≠ 0x27 := by rintro rfl; cases h
  have h3 : k ≠ 0x37 := by rintro rfl; cases h
  rw [selectRow, hi_word, if_neg h1, if_neg h2, if_neg h3, page0_eq]
  exact findRow_of_lookup page0_nibbles h

theorem selectRow_page1 {k : Byte} {f : Word → Word → Word → Instr} (h : lookup page1Rows k = some f) :
    selectRow (word 0x17 k) = some f := by
  rw [selectRow, hi_word, lo_word, if_pos rfl, page1_eq]
  exact findRow_of_lookup page1_nibbles h

theorem selectRow_page2 {k : Byte} {f : Word → Word → Word → Instr} (h : lookup page2Rows k = some f) :
    selectRow (word 0x27 k) = some f := by
  rw [selectRow, hi_word, lo_word, if_neg (by decide), if_pos rfl, page2_eq]
  exact findRow_of_lookup page2_nibbles h

theorem selectRow_page3 {k : Byte} {f : Word → Word → Word → Instr} (h : lookup page3Rows k = some f) :
    selectRow (word 0x37 k) = some f := by
  rw [selectRow, hi_word, lo_word, if_neg (by decide), if_neg (by decide), if_pos rfl, page3_eq]
  exact findRow_of_lookup page3_nibbles h

end Sys2Proof

/-! ### Words that are read back as an instruction -/

namespace Sys2Proof

/-- The words are read as the instruction, whatever words follow. -/
def ReadAs (ws : List Word) (i : Instr) : Prop := ∀ rest : List Word, decodeWords (ws ++ rest) = .ok i

theorem decode_of_selectRow {w0 : Word} {f : Word → Word → Word → Instr} (h : selectRow w0 = some f) (w1 w2 : Word) :
    decode w0 w1 w2 = .ok (f w0 w1 w2) := by
  rw [decode, h]

section
variable {w0 w1 w2 : Word} {f : Word → Word → Word → Instr} {i : Instr}

theorem readAs_one (h : selectRow w0 = some f) (e : ∀ v1 v2, f w0 v1 v2 = i) : ReadAs [w0] i :=
  fun _ => (decode_of_selectRow h _ _).trans (congrArg _ (e _ _))

theorem readAs_two (h : selectRow w0 = some f) (e : ∀ v2, f w0 w1 v2 = i) : ReadAs [w0, w1] i :=
  fun _ => (decode_of_selectRow h _ _).trans (congrArg _ (e _))

theorem readAs_three (h : selectRow w0 = some f) (e : f w0 w1 w2 = i) : ReadAs [w0, w1, w2] i :=
  fun _ => (decode_of_selectRow h _ _).trans (congrArg _ e)

end

/-- A page 0 opcode and its byte (30_encoding.md R142). -/
theorem readAs_byte {k b : Byte} {g : Byte → Instr} (h : lookup page0Rows k = some fun w0 _ _ => g (lo w0)) :
    ReadAs [word k b] (g b) :=
  readAs_one (selectRow_page0 h) fun _ _ => congrArg g (lo_word k b)

/-- A page 0 opcode, its byte and a word (30_encoding.md R143). -/
theorem readAs_byte_word {k b : Byte} {w1 : Word} {g : Byte → Word → Instr}
    (h : lookup page0Rows k = some fun w0 w1 _ => g (lo w0) w1) : ReadAs [word k b, w1] (g b w1) :=
  readAs_two (selectRow_page0 h) fun _ => congrArg (g · w1) (lo_word k b)

/-- A page 0 opcode, its byte and two words (30_encoding.md R145). -/
theorem readAs_byte_word_word {k b : Byte} {w1 w2 : Word} {g : Byte → Word → Word → Instr}
    (h : lookup page0Rows k = some fun w0 w1 w2 => g (lo w0) w1 w2) : ReadAs [word k b, w1, w2] (g b w1 w2) :=
  readAs_three (selectRow_page0 h) (congrArg (g · w1 w2) (lo_word k b))

/-! ### The encodings of the addressing forms -/

/-- The rows of the three index registers, $10 apart (30_encoding.md R153). -/
structure IxRows (rows : List (List Row)) (op : Byte) (f : Ix → Word → Word → Word → Instr) : Prop where
  x : lookup rows op = some (f .x)
  y : lookup rows (op + 0x10) = some (f .y)
  z : lookup rows (op + 0x20) = some (f .z)

theorem IxRows.lookup_step {rows : List (List Row)} {op : Byte} {f : Ix → Word → Word → Word → Instr}
    (h : IxRows rows op f) (i : Ix) : lookup rows (op + i.step) = some (f i) := by
  cases i with
  | x => exact (congrArg (lookup rows) (BitVec.add_zero op)).trans h.x
  | y => exact h.y
  | z => exact h.z

/-- The rows of the forms IND8, IND16 and EXT behind `encMem`. -/
structure MemRows (op : Byte) (g : Mem → Instr) : Prop where
  ind8 : IxRows page0Rows op fun i w0 _ _ => g (.ind8 i (lo w0))
  ind16 : IxRows page1Rows op fun i _ w1 _ => g (.ind16 i w1)
  ext : lookup page1Rows (op + 0x30) = some fun _ w1 _ => g (.ext w1)

theorem MemRows.readAs_indexedOrExt {op : Byte} {g : Mem → Instr} (h : MemRows op g) (m : Mem)
    (hm : m.indexedOrExt = true) : ReadAs (encMem op m) (g m) := by
  cases m with
  | ind8 i ff => exact readAs_byte (g := fun b => g (.ind8 i b)) (h.ind8.lookup_step i)
  | ind16 i gggg => exact readAs_two (selectRow_page1 (h.ind16.lookup_step i)) fun _ => rfl
  | ext hhll => exact readAs_two (selectRow_page1 h.ext) fun _ => rfl
  | eoff i => cases hm

/-- The rows of the E-offset forms, page 2. -/
abbrev EoffRows (op : Byte) (g : Mem → Instr) : Prop := IxRows page2Rows op fun i _ _ _ => g (.eoff i)

theorem IxRows.readAs_eoff {op : Byte} {g : Mem → Instr} (h : EoffRows op g) (i : Ix) :
    ReadAs [word 0x27 (op + i.step)] (g (.eoff i)) :=
  readAs_one (selectRow_page2 (h.lookup_step i)) fun _ _ => rfl

theorem MemRows.readAs {op : Byte} {g : Mem → Instr} (h : MemRows op g) (he : EoffRows op g) (m : Mem) :
    ReadAs (encMem op m) (g m) := by
  cases m with
  | eoff i => exact he.readAs_eoff i
  | ind8 i ff => exact h.readAs_indexedOrExt _ rfl
  | ind16 i gggg => exact h.readAs_indexedOrExt _ rfl
  | ext hhll => exact h.readAs_indexedOrExt _ rfl

/-- Instructions on A and B: every memory form, and IMM8. -/
theorem readAs_encSrc8 {op : Byte} {g : Src8 → Instr} (h : MemRows op fun m => g (.mem m))
    (he : EoffRows op fun m => g (.mem m)) (himm : lookup page0Rows (op + 0x30) = some fun w0 _ _ => g (.imm (lo w0)))
    (m : Src8) : ReadAs (encSrc8 op m) (g m) := by
  cases m with
  | mem m => exact h.readAs he m
  | imm ii => exact readAs_byte (g := fun b => g (.imm b)) himm

/-- Loads and compares of IX, IY, IZ, SP. -/
theorem readAs_encSrcIndex {op immOp : Byte} {g : Src16 → Instr} (h : MemRows op fun m => g (.mem m))
    (himm : lookup page3Rows immOp = some fun _ w1 _ => g (.imm16 w1)) (m : Src16) (hm : m.formsIndex = true) :
    ReadAs (encSrcIndex op immOp m) (g m) := by
  cases m with
  | mem m => exact h.readAs_indexedOrExt m hm
  | imm8 ii => cases hm
  | imm16 jjkk => exact readAs_two (selectRow_page3 himm) fun _ => rfl

/-- The rows of the memory forms behind `encMemD`. -/
structure MemDRows (op : Byte) (g : Mem → Instr) : Prop where
  ind8 : IxRows page0Rows op fun i w0 _ _ => g (.ind8 i (lo w0))
  ind16 : IxRows page3Rows (op + 0x40) fun i _ w1 _ => g (.ind16 i w1)
  ext : lookup page3Rows (op + 0x70) = some fun _ w1 _ => g (.ext w1)
  eoff : EoffRows op g

theorem MemDRows.readAs {op : Byte} {g : Mem → Instr} (h : MemDRows op g) (m : Mem) : ReadAs (encMemD op m) (g m) := by
  cases m with
  | ind8 i ff => exact readAs_byte (g := fun b => g (.ind8 i b)) (h.ind8.lookup_step i)
  | ind16 i gggg => exact readAs_two (selectRow_page3 (h.ind16.lookup_step i)) fun _ => rfl
  | ext hhll => exact readAs_two (selectRow_page3 h.ext) fun _ => rfl
  | eoff i => exact h.eoff.readAs_eoff i

/-- Instructions on D: every memory form, and IMM16. -/
theorem readAs_encSrcD {op imm8op : Byte} {g : Src16 → Instr} (h : MemDRows op fun m => g (.mem m))
    (himm : lookup page3Rows (op + 0x30) = some fun _ w1 _ => g (.imm16 w1)) (m : Src16) (hm : m.formsD = true) :
    ReadAs (encSrcD op imm8op m) (g m) := by
  cases m with
  | mem m => exact h.readAs m
  | imm8 ii => cases hm
  | imm16 jjkk => exact readAs_two (selectRow_page3 himm) fun _ => rfl

/-- ADDD has IMM8 too, on page 0 (41_arithmetic.md R277). -/
theorem readAs_encSrcD_imm8 {op imm8op : Byte} {g : Src16 → Instr} (h : MemDRows op fun m => g (.mem m))
    (himm : lookup page3Rows (op + 0x30) = some fun _ w1 _ => g (.imm16 w1))
    (h8 : lookup page0Rows imm8op = some fun w0 _ _ => g (.imm8 (lo w0))) (m : Src16) :
    ReadAs (encSrcD op imm8op m) (g m) := by
  cases m with
  | imm8 ii => exact readAs_byte (g := fun b => g (.imm8 b)) h8
  | mem m => exact readAs_encSrcD h himm (.mem m) rfl
  | imm16 jjkk => exact readAs_encSrcD h himm (.imm16 jjkk) rfl

/-- The rows of the memory forms behind `encMemE`. -/
structure MemERows (op : Byte) (g : Mem → Instr) : Prop where
  ind16 : IxRows page3Rows (op + 0x10) fun i _ w1 _ => g (.ind16 i w1)
  ext : lookup page3Rows (op + 0x40) = some fun _ w1 _ => g (.ext w1)

theorem MemERows.readAs {op : Byte} {g : Mem → Instr} (h : MemERows op g) (m : Mem) (hm : m.ind16OrExt = true) :
    ReadAs (encMemE op m) (g m) := by
  cases m with
  | ind8 i ff => cases hm
  | ind16 i gggg => exact readAs_two (selectRow_page3 (h.ind16.lookup_step i)) fun _ => rfl
  | ext hhll => exact readAs_two (selectRow_page3 h.ext) fun _ => rfl
  | eoff i => cases hm

/-- Instructions on E: IND16, EXT and IMM16. -/
theorem readAs_encSrcE {op imm8op : Byte} {g : Src16 → Instr} (h : MemERows op fun m => g (.mem m))
    (himm : lookup page3Rows op = some fun _ w1 _ => g (.imm16 w1)) (m : Src16) (hm : m.formsE = true) :
    ReadAs (encSrcE op imm8op m) (g m) := by
  cases m with
  | mem m => exact h.readAs m hm
  | imm8 ii => cases hm
  | imm16 jjkk => exact readAs_two (selectRow_page3 himm) fun _ => rfl

/-- ADDE has IMM8 too, on page 0 (41_arithmetic.md R278). -/
theorem readAs_encSrcE_imm8 {op imm8op : Byte} {g : Src16 → Instr} (h : MemERows op fun m => g (.mem m))
    (himm : lookup page3Rows op = some fun _ w1 _ => g (.imm16 w1))
    (h8 : lookup page0Rows imm8op = some fun w0 _ _ => g (.imm8 (lo w0))) (m : Src16) (hm : m.formsEOrImm8 = true) :
    ReadAs (encSrcE op imm8op m) (g m) := by
  cases m with
  | imm8 ii => exact readAs_byte (g := fun b => g (.imm8 b)) h8
  | mem m => exact readAs_encSrcE h himm (.mem m) hm
  | imm16 jjkk => exact readAs_encSrcE h himm (.imm16 jjkk) rfl

/-- Word instructions on memory, page 2; BCLRW and BSETW have a mask word behind the operand word. -/
theorem readAs_encMemW {op : Byte} {g : Mem → Instr} (hx : IxRows page2Rows op fun i _ w1 _ => g (.ind16 i w1))
    (he : lookup page2Rows (op + 0x30) = some fun _ w1 _ => g (.ext w1)) (m : Mem) (hm : m.ind16OrExt = true) :
    ReadAs (encMemW op m) (g m) := by
  cases m with
  | ind8 i ff => cases hm
  | ind16 i gggg => exact readAs_two (selectRow_page2 (hx.lookup_step i)) fun _ => rfl
  | ext hhll => exact readAs_two (selectRow_page2 he) fun _ => rfl
  | eoff i => cases hm

theorem readAs_encMemW_mask {op : Byte} {g : Mem → Word → Instr}
    (hx : IxRows page2Rows op fun i _ w1 w2 => g (.ind16 i w1) w2)
    (he : lookup page2Rows (op + 0x30) = some fun _ w1 w2 => g (.ext w1) w2) (m : Mem) (mmmm : Word)
    (hm : m.ind16OrExt = true) : ReadAs (encMemW op m ++ [mmmm]) (g m mmmm) := by
  cases m with
  | ind8 i ff => cases hm
  | ind16 i gggg => exact readAs_three (selectRow_page2 (hx.lookup_step i)) rfl
  | ext hhll => exact readAs_three (selectRow_page2 he) rfl
  | eoff i => cases hm

/-- BCLR and BSET (43_logic_bit.md R371). -/
theorem readAs_encBit8 {op : Byte} {g : Mem → Byte → Instr}
    (h8 : IxRows page1Rows op fun i _ w1 _ => g (.ind8 i (lo w1)) (hi w1))
    (h16 : IxRows page0Rows op fun i w0 w1 _ => g (.ind16 i w1) (lo w0))
    (he : lookup page0Rows (op + 0x30) = some fun w0 w1 _ => g (.ext w1) (lo w0)) (m : Mem) (mm : Byte)
    (hm : m.indexedOrExt = true) : ReadAs (encBit8 op mm m) (g m mm) := by
  cases m with
  | ind8 i ff => exact readAs_two (selectRow_page1 (h8.lookup_step i)) fun _ => by rw [hi_word, lo_word]
  | ind16 i gggg => exact readAs_byte_word (g := fun b w => g (.ind16 i w) b) (h16.lookup_step i)
  | ext hhll => exact readAs_byte_word (g := fun b w => g (.ext w) b) he
  | eoff i => cases hm

/-- BRCLR and BRSET (45_program_control.md R514). -/
theorem readAs_encBitBranch {op8 op16 : Byte} {g : Mem → Byte → Rel → Instr}
    (h8 : IxRows page0Rows op8 fun i w0 w1 _ => g (.ind8 i (hi w1)) (lo w0) (.r8 (lo w1)))
    (h16 : IxRows page0Rows op16 fun i w0 w1 w2 => g (.ind16 i w1) (lo w0) (.r16 w2))
    (he : lookup page0Rows (op16 + 0x30) = some fun w0 w1 w2 => g (.ext w1) (lo w0) (.r16 w2)) (m : Mem) (mm : Byte)
    (r : Rel) (hm : bitBranchForm m r = true) : ReadAs (encBitBranch op8 op16 mm m r) (g m mm r) := by
  cases m with
  | ind8 i ff =>
    cases r with
    | r8 rr => exact readAs_two (selectRow_page0 (h8.lookup_step i)) fun _ => by rw [hi_word, lo_word, lo_word]
    | r16 rrrr => cases hm
  | ind16 i gggg =>
    cases r with
    | r8 rr => cases hm
    | r16 rrrr => exact readAs_byte_word_word (g := fun b v w => g (.ind16 i v) b (.r16 w)) (h16.lookup_step i)
  | ext hhll =>
    cases r with
    | r8 rr => cases hm
    | r16 rrrr => exact readAs_byte_word_word (g := fun b v w => g (.ext v) b (.r16 w)) he
  | eoff i => cases hm

theorem nib0_word (h : Byte) (u l : Ext) : nib0 (word h (u ++ l)) = l := by
  apply BitVec.eq_of_getLsbD_eq
  intro i hi
  simp only [nib0, word, BitVec.getLsbD_append, BitVec.getLsbD_extractLsb']
  grind

theorem nib1_word (h : Byte) (u l : Ext) : nib1 (word h (u ++ l)) = u := by
  apply BitVec.eq_of_getLsbD_eq
  intro i hi
  simp only [nib1, word, BitVec.getLsbD_append, BitVec.getLsbD_extractLsb']
  grind

/-- JMP and JSR: the bank is the low nibble, whatever the z nibble (30_encoding.md R150). -/
theorem readAs_encJump {extOp indOp : Byte} {g : JumpTarget → Instr}
    (he : lookup page0Rows extOp = some fun w0 w1 _ => g (.ext20 (nib0 w0) w1))
    (hx : IxRows page0Rows indOp fun i w0 w1 _ => g (.ind20 i (nib0 w0 ++ w1))) (t : JumpTarget) :
    ReadAs (encJump extOp indOp t) (g t) := by
  cases t with
  | ext20 b hhll => exact readAs_two (selectRow_page0 he) fun _ => by rw [nib0_word]
  | ind20 i off =>
    have split : BitVec.extractLsb' 16 4 off ++ BitVec.extractLsb' 0 16 off = off := Machine.pair_bank_offset off
    exact readAs_two (selectRow_page0 (hx.lookup_step i)) fun _ => by rw [nib0_word, split]

/-- AIX, AIY, AIZ, AIS. -/
theorem readAs_encImm {op : Byte} {g : Imm → Instr} (h8 : lookup page0Rows op = some fun w0 _ _ => g (.i8 (lo w0)))
    (h16 : lookup page3Rows op = some fun _ w1 _ => g (.i16 w1)) (v : Imm) : ReadAs (encImm op v) (g v) := by
  cases v with
  | i8 ii => exact readAs_byte (g := fun b => g (.i8 b)) h8
  | i16 jjkk => exact readAs_two (selectRow_page3 h16) fun _ => rfl

/-- MOVB and MOVW (40_data_movement.md R215, R216). -/
theorem readAs_encMov {ixpExt extIxp extExt : Byte} {g : MovForm → Instr}
    (h0 : lookup page0Rows ixpExt = some fun w0 w1 _ => g (.ixpToExt (lo w0) w1))
    (h1 : lookup page0Rows extIxp = some fun w0 w1 _ => g (.extToIxp w1 (lo w0)))
    (h2 : lookup page3Rows extExt = some fun _ w1 w2 => g (.extToExt w1 w2)) (f : MovForm) :
    ReadAs (encMov ixpExt extIxp extExt f) (g f) := by
  cases f with
  | ixpToExt ff hhll => exact readAs_byte_word (g := fun b w => g (.ixpToExt b w)) h0
  | extToIxp hhll ff => exact readAs_byte_word (g := fun b w => g (.extToIxp w b)) h1
  | extToExt src dst => exact readAs_three (selectRow_page3 h2) rfl

end Sys2Proof

/-! ### Every instruction -/

namespace Sys2Proof

/-- The words of a well-formed instruction are read as the instruction. The arms stand by encoding; the rows of each
opcode are read off the tables. -/
theorem readAs_encode (i : Instr) (wf : i.wellFormed = true) : ReadAs (encode i) i := by
  cases i with
  | ldaa m | ldab m | adca m | adcb m | adda m | addb m | sbca m | sbcb m | suba m | subb m | cmpa m | cmpb m
  | anda m | andb m | eora m | eorb m | oraa m | orab m | bita m | bitb m =>
    exact readAs_encSrc8 ⟨⟨rfl, rfl, rfl⟩, ⟨rfl, rfl, rfl⟩, rfl⟩ ⟨rfl, rfl, rfl⟩ rfl m
  | ldd m | adcd m | sbcd m | subd m | cpd m | andd m | eord m | ord m =>
    exact readAs_encSrcD ⟨⟨rfl, rfl, rfl⟩, ⟨rfl, rfl, rfl⟩, rfl, ⟨rfl, rfl, rfl⟩⟩ rfl m wf
  | addd m => exact readAs_encSrcD_imm8 ⟨⟨rfl, rfl, rfl⟩, ⟨rfl, rfl, rfl⟩, rfl, ⟨rfl, rfl, rfl⟩⟩ rfl rfl m
  | lde m | adce m | sbce m | sube m | cpe m | ande m | eore m | ore m =>
    exact readAs_encSrcE ⟨⟨rfl, rfl, rfl⟩, rfl⟩ rfl m wf
  | adde m => exact readAs_encSrcE_imm8 ⟨⟨rfl, rfl, rfl⟩, rfl⟩ rfl rfl m wf
  | cpx m | ldx m | cpy m | ldy m | cpz m | ldz m | cps m | lds m =>
    exact readAs_encSrcIndex ⟨⟨rfl, rfl, rfl⟩, ⟨rfl, rfl, rfl⟩, rfl⟩ rfl m wf
  | staa m | stab m => exact MemRows.readAs ⟨⟨rfl, rfl, rfl⟩, ⟨rfl, rfl, rfl⟩, rfl⟩ ⟨rfl, rfl, rfl⟩ m
  | tst m | dec m | inc m | clr m | com m | neg m | lsr m | asl m | asr m | rol m | ror m | stx m | sty m | stz m
  | sts m => exact MemRows.readAs_indexedOrExt ⟨⟨rfl, rfl, rfl⟩, ⟨rfl, rfl, rfl⟩, rfl⟩ m wf
  | std m => exact MemDRows.readAs ⟨⟨rfl, rfl, rfl⟩, ⟨rfl, rfl, rfl⟩, rfl, ⟨rfl, rfl, rfl⟩⟩ m
  | ste m => exact MemERows.readAs ⟨⟨rfl, rfl, rfl⟩, rfl⟩ m wf
  | tstw m | decw m | incw m | clrw m | comw m | negw m | lsrw m | aslw m | asrw m | rolw m | rorw m =>
    exact readAs_encMemW ⟨rfl, rfl, rfl⟩ rfl m wf
  | bclrw m mmmm | bsetw m mmmm => exact readAs_encMemW_mask ⟨rfl, rfl, rfl⟩ rfl m mmmm wf
  | bclr m mm | bset m mm => exact readAs_encBit8 ⟨rfl, rfl, rfl⟩ ⟨rfl, rfl, rfl⟩ rfl m mm wf
  | brclr m mm r | brset m mm r => exact readAs_encBitBranch ⟨rfl, rfl, rfl⟩ ⟨rfl, rfl, rfl⟩ rfl m mm r wf
  | movb f | movw f => exact readAs_encMov rfl rfl rfl f
  | jmp t | jsr t => exact readAs_encJump rfl ⟨rfl, rfl, rfl⟩ t
  | aix v | aiy v | aiz v | ais v => exact readAs_encImm rfl rfl v
  | bra v | brn v | bcc v | bcs v | beq v | bge v | bgt v | bhi v | ble v | bls v | blt v | bmi v | bne v | bpl v
  | bvc v | bvs v | bsr v | pshm v | pulm v => exact readAs_byte rfl
  | mac xo yo | rmac xo yo => exact readAs_one (selectRow_page0 rfl) fun _ _ => by simp only [nib1_word, nib0_word]
  | lded v | sted v | lbsr v => exact readAs_two (selectRow_page2 rfl) fun _ => rfl
  | lbra v | lbrn v | lbcc v | lbcs v | lbeq v | lbge v | lbgt v | lbhi v | lble v | lbls v | lblt v | lbmi v | lbne v
  | lbpl v | lbvc v | lbvs v | lbev v | lbmv v | andp v | orp v =>
    exact readAs_two (selectRow_page3 rfl) fun _ => rfl
  | tde | ted | xgde | ade | sde | sxt | tstd | tste | clrd | clre | comd | come | negd | nege | lsrd | lsre | asld
  | asle | asrd | asre | rold | role | rord | rore | rts | rti | tsx | tsy | tsz | txy | txz | tyx | tyz | tzx | tzy
  | tbek | tekb | lpstop | wai | nop | aslm | asrm | clrm | ldhi | pshmac | pulmac | tmer | tmet | tedm | tem | tmxed =>
    exact readAs_one (selectRow_page2 rfl) fun _ _ => rfl
  | tab | tba | xgab | aba | sba | daa | cba | tsta | tstb | deca | decb | inca | incb | clra | clrb | coma | comb
  | nega | negb | ediv | edivs | emul | emuls | fdiv | fmuls | idiv | mul | lsra | lsrb | asla | aslb | asra | asrb
  | rola | rolb | rora | rorb | swi | abx | aby | abz | adx | ady | adz | aex | aey | aez | txs | tys | tzs | xgdx
  | xgdy | xgdz | xgex | xgey | xgez | tbsk | tbxk | tbyk | tbzk | tskb | txkb | tykb | tzkb | psha | pshb | pula
  | pulb | tap | tdp | tpa | tpd | bgnd | ace | aced | tdmsk =>
    exact readAs_one (selectRow_page3 rfl) fun _ _ => rfl

/-- Settles O1: each encoding by its rows of the opcode tables. -/
theorem decodeEncodeRoundTrip : Obligations.DecodeEncodeRoundTrip :=
  fun i rest wf => readAs_encode i wf rest

end Sys2Proof

/-! ### The opcodes without a row

A page's keys, in their order, are the bytes that 30_encoding.md R165 does not list for it. -/

namespace Sys2Proof

/-- The sixteen bytes of each upper nibble. -/
def bytesByNibble : List (List Byte) :=
  (List.range 16).map fun n => (List.range 16).map fun m => BitVec.ofNat 8 (16 * n + m)

theorem mem_bytesByNibble (k : Byte) : k ∈ bytesByNibble.flatten := by
  have split : 16 * (k.toNat / 16) + k.toNat % 16 = k.toNat := Nat.div_add_mod _ _
  refine List.mem_flatten.mpr ⟨_, List.mem_map_of_mem (List.mem_range.mpr (by omega : k.toNat / 16 < 16)), ?_⟩
  refine List.mem_map.mpr ⟨k.toNat % 16, List.mem_range.mpr (Nat.mod_lt _ (by decide)), ?_⟩
  rw [split, BitVec.ofNat_toNat, BitVec.setWidth_eq]

/-- A key finds no row where no row has it. -/
theorem findRow_eq_none_iff {k : Byte} {rows : List Row} : findRow k rows = none ↔ k ∉ rows.map (·.1) := by
  induction rows with
  | nil => simp [findRow]
  | cons r rest ih =>
    by_cases h : r.1 = k
    · simp [findRow, h]
    · simp [findRow, h, ih, Ne.symm h]

/-- Where the keys of a page are the bytes outside `gap`, the bytes of `gap` find no row. -/
theorem findRow_eq_none_iff_gap {gap : Byte → Prop} [DecidablePred gap] {page : List (List Row)}
    (keys : (page.map fun rows => rows.map (·.1)) = bytesByNibble.map fun ks => ks.filter fun k => !decide (gap k))
    (k : Byte) : findRow k page.flatten = none ↔ gap k := by
  rw [findRow_eq_none_iff, List.map_flatten, keys, ← List.filter_flatten]
  simp only [List.mem_filter, mem_bytesByNibble, true_and, Bool.not_eq_true', decide_eq_false_iff_not,
    Decidable.not_not]

/-- The gaps of a page given as ranges, the way R165 lists them. -/
theorem findRow_eq_none_iff_ranges {ranges : List (Byte × Byte)} {page : List (List Row)}
    (keys : (page.map fun rows => rows.map (·.1)) =
      bytesByNibble.map fun ks => ks.filter fun k => !decide (∃ r ∈ ranges, r.1 ≤ k ∧ k ≤ r.2)) (k : Byte) :
    findRow k page.flatten = none ↔ ∃ r ∈ ranges, r.1 ≤ k ∧ k ≤ r.2 :=
  findRow_eq_none_iff_gap keys k

theorem decode_eq_unassigned_iff {w0 w1 w2 : Word} :
    decode w0 w1 w2 = .error (.unassignedOpcode w0) ↔ selectRow w0 = none := by
  cases h : selectRow w0 <;> simp [decode, h]

/-- The bytes that lead to pages 1, 2 and 3 (30_encoding.md R154). -/
def prebytes : List Byte := [0x17, 0x27, 0x37]

/-- A word selects no row where its key has none on the page of its prebyte (30_encoding.md R154). -/
theorem selectRow_eq_none_iff {w0 : Word} :
    selectRow w0 = none ↔
      (hi w0 ∉ prebytes ∧ findRow (hi w0) page0Rows.flatten = none) ∨
      (hi w0 = 0x17 ∧ findRow (lo w0) page1Rows.flatten = none) ∨
      (hi w0 = 0x27 ∧ findRow (lo w0) page2Rows.flatten = none) ∨
      (hi w0 = 0x37 ∧ findRow (lo w0) page3Rows.flatten = none) := by
  rw [selectRow, page0_eq, page1_eq, page2_eq, page3_eq]
  by_cases h1 : hi w0 = 0x17
  · simp [h1, prebytes]
  by_cases h2 : hi w0 = 0x27
  · simp [h2, prebytes]
  by_cases h3 : hi w0 = 0x37
  · simp [h3, prebytes]
  · have other : hi w0 ∉ prebytes := by
      simp only [prebytes, List.mem_cons, List.not_mem_nil, h1, h2, h3, or_self, not_false_eq_true]
    simp only [h1, h2, h3, other, if_false, not_false_eq_true, true_and, false_and, or_false]

/-- The unassigned opcodes of page 0 (30_encoding.md R165). -/
def page0Unassigned : List Byte := [0x07, 0x7D, 0x7E, 0x7F, 0xFD, 0xFE, 0xFF]

/-- On page 0 the bytes without a row are the prebytes and the unassigned opcodes, and no byte is both. -/
theorem page0_unassigned_iff (k : Byte) :
    (k ∉ prebytes ∧ findRow k page0Rows.flatten = none) ↔ k ∈ page0Unassigned := by
  have gaps : findRow k page0Rows.flatten = none ↔ k ∈ prebytes ∨ k ∈ page0Unassigned :=
    findRow_eq_none_iff_gap (gap := fun k => k ∈ prebytes ∨ k ∈ page0Unassigned) (by decide) k
  have disjoint : ∀ k ∈ page0Unassigned, k ∉ prebytes := by decide
  rw [gaps]
  exact ⟨fun ⟨h, hk⟩ => hk.resolve_left h, fun h => ⟨disjoint k h, .inr h⟩⟩

/-- Settles O3: on each page the bytes without a row are those that R165 lists. -/
theorem unassignedOpcodes : Obligations.UnassignedOpcodes := fun w0 w1 w2 => by
  rw [decode_eq_unassigned_iff, selectRow_eq_none_iff]
  refine or_congr (page0_unassigned_iff _) (or_congr ?page1 (or_congr ?page2 ?page3))
  case page1 => exact and_congr_right fun _ => findRow_eq_none_iff_ranges (by decide) (lo w0)
  case page2 => exact and_congr_right fun _ => findRow_eq_none_iff_ranges (by decide) (lo w0)
  case page3 => exact and_congr_right fun _ => findRow_eq_none_iff_ranges (by decide) (lo w0)

end Sys2Proof

/-! ### What a row reads

Which instruction a row reads, how long it is and which words it depends on show in the row itself, whatever the words
are. -/

namespace Sys2Proof

/-- The number of words of the instructions that a row reads. -/
def rowWords (f : Word → Word → Word → Instr) : Nat := (encode (f 0 0 0)).length

/-- What a row reads if the words after its instruction are zero. -/
def ownWords (f : Word → Word → Word → Instr) (w0 w1 w2 : Word) : Instr :=
  f w0 (bif Nat.ble 2 (rowWords f) then w1 else 0) (bif Nat.ble 3 (rowWords f) then w2 else 0)

/-- A row reads instructions of the opcode table, all of one length, from their own words only. -/
structure RowReads (f : Word → Word → Word → Instr) : Prop where
  wellFormed : ∀ w0 w1 w2, (f w0 w1 w2).wellFormed = true
  words : ∀ w0 w1 w2, (encode (f w0 w1 w2)).length = rowWords f
  own : ∀ w0 w1 w2, f w0 w1 w2 = ownWords f w0 w1 w2
  count : rowWords f ∈ [1, 2, 3]

/-- `RowReads` of every row of a page, in a form that evaluates. -/
structure PageReads (page : List (List Row)) : Prop where
  wellFormed : ∀ w0 w1 w2, (page.all fun rows => rows.all fun r => (r.2 w0 w1 w2).wellFormed) = true
  words : ∀ w0 w1 w2, (page.all fun rows => rows.all fun r => (encode (r.2 w0 w1 w2)).length == rowWords r.2) = true
  own : ∀ w0 w1 w2, (page.map fun rows => rows.map fun r => r.2 w0 w1 w2) =
    page.map fun rows => rows.map fun r => ownWords r.2 w0 w1 w2
  count : (page.all fun rows => rows.all fun r => [1, 2, 3].contains (rowWords r.2)) = true

theorem PageReads.rowReads {page : List (List Row)} (h : PageReads page) {r : Row} (hr : r ∈ page.flatten) :
    RowReads r.2 := by
  obtain ⟨rows, hrows, hr⟩ := List.mem_flatten.mp hr
  constructor
  case wellFormed =>
    exact fun w0 w1 w2 => List.all_eq_true.mp (List.all_eq_true.mp (h.wellFormed w0 w1 w2) _ hrows) _ hr
  case words =>
    exact fun w0 w1 w2 => eq_of_beq (List.all_eq_true.mp (List.all_eq_true.mp (h.words w0 w1 w2) _ hrows) _ hr)
  case own => exact fun w0 w1 w2 => List.map_inj_left.mp (List.map_inj_left.mp (h.own w0 w1 w2) _ hrows) _ hr
  case count => exact List.contains_iff_mem.mp (List.all_eq_true.mp (List.all_eq_true.mp h.count _ hrows) _ hr)

theorem page0_reads : PageReads page0Rows := ⟨fun _ _ _ => rfl, fun _ _ _ => rfl, fun _ _ _ => rfl, rfl⟩
theorem page1_reads : PageReads page1Rows := ⟨fun _ _ _ => rfl, fun _ _ _ => rfl, fun _ _ _ => rfl, rfl⟩
theorem page2_reads : PageReads page2Rows := ⟨fun _ _ _ => rfl, fun _ _ _ => rfl, fun _ _ _ => rfl, rfl⟩
theorem page3_reads : PageReads page3Rows := ⟨fun _ _ _ => rfl, fun _ _ _ => rfl, fun _ _ _ => rfl, rfl⟩

theorem mem_of_findRow {k : Byte} {rows : List Row} {f : Word → Word → Word → Instr}
    (h : findRow k rows = some f) : (k, f) ∈ rows := by
  induction rows with
  | nil => cases h
  | cons r rest ih =>
    by_cases hk : r.1 = k
    · rw [findRow, if_pos hk] at h
      obtain rfl := hk
      obtain rfl := Option.some.inj h
      exact List.mem_cons_self
    · rw [findRow, if_neg hk] at h
      exact List.mem_cons_of_mem r (ih h)

theorem PageReads.of_findRow {page : List (List Row)} (h : PageReads page) {k : Byte}
    {f : Word → Word → Word → Instr} (hf : findRow k page.flatten = some f) : RowReads f :=
  h.rowReads (mem_of_findRow hf)

/-- The row that a word selects is one of the four pages'. -/
theorem rowReads_of_selectRow {w0 : Word} {f : Word → Word → Word → Instr} (h : selectRow w0 = some f) :
    RowReads f := by
  rw [selectRow, page0_eq, page1_eq, page2_eq, page3_eq] at h
  by_cases h1 : hi w0 = 0x17
  · rw [if_pos h1] at h
    exact page1_reads.of_findRow h
  by_cases h2 : hi w0 = 0x27
  · rw [if_neg h1, if_pos h2] at h
    exact page2_reads.of_findRow h
  by_cases h3 : hi w0 = 0x37
  · rw [if_neg h1, if_neg h2, if_pos h3] at h
    exact page3_reads.of_findRow h
  · rw [if_neg h1, if_neg h2, if_neg h3] at h
    exact page0_reads.of_findRow h

theorem decode_eq_ok_iff {w0 w1 w2 : Word} {i : Instr} :
    decode w0 w1 w2 = .ok i ↔ ∃ f, selectRow w0 = some f ∧ f w0 w1 w2 = i := by
  cases h : selectRow w0 <;> simp [decode, h]

section
variable {f : Word → Word → Word → Instr}

theorem RowReads.length_eq (h : RowReads f) (w0 w1 w2 : Word) : (f w0 w1 w2).length = 2 * rowWords f := by
  rw [Instr.length, h.words]

theorem RowReads.length_cases (h : RowReads f) (w0 w1 w2 : Word) :
    (f w0 w1 w2).length = 2 ∨ (f w0 w1 w2).length = 4 ∨ (f w0 w1 w2).length = 6 := by
  have count := h.count
  simp only [List.mem_cons, List.not_mem_nil, or_false] at count
  rw [h.length_eq]
  omega

theorem RowReads.eq_of_one (h : RowReads f) (hf : rowWords f = 1) (w0 v1 v2 w1 w2 : Word) :
    f w0 v1 v2 = f w0 w1 w2 := by
  rw [h.own w0 v1, h.own w0 w1, ownWords, ownWords, hf]
  rfl

theorem RowReads.eq_of_two (h : RowReads f) (hf : rowWords f = 2) (w0 w1 v2 w2 : Word) : f w0 w1 v2 = f w0 w1 w2 := by
  rw [h.own w0 w1 v2, h.own w0 w1 w2, ownWords, ownWords, hf]
  rfl

end

/-- Settles O2: the selected row reads its instruction from its own words, whatever the others are. -/
theorem decodeYieldsWellFormed : Obligations.DecodeYieldsWellFormed := by
  rintro w0 w1 w2 i h
  obtain ⟨f, hf, rfl⟩ := decode_eq_ok_iff.mp h
  have reads := rowReads_of_selectRow hf
  have len := reads.length_eq w0 w1 w2
  refine ⟨reads.wellFormed w0 w1 w2, reads.length_cases w0 w1 w2, fun two v1 v2 => ?_, fun four v2 => ?_⟩
  · exact decode_eq_ok_iff.mpr ⟨f, hf, reads.eq_of_one (by omega) w0 v1 v2 w1 w2⟩
  · exact decode_eq_ok_iff.mpr ⟨f, hf, reads.eq_of_two (by omega) w0 w1 v2 w2⟩

/-- Settles O4: each word is the encoding of its instruction, which the round trip reads back. -/
theorem decodingSample : Obligations.DecodingSample :=
  have sample (i : Instr) (wf : i.wellFormed = true) := decodeEncodeRoundTrip i [] wf
  ⟨sample (.ldaa (.mem (.ind8 .x 0x05))) rfl, sample (.ldd (.imm16 0x1234)) rfl, sample (.ldd (.mem (.eoff .x))) rfl,
   sample .aslm rfl, sample .ediv rfl, sample (.beq 0xFE) rfl, sample (.andp 0xFF1F) rfl, sample (.mac 0x2 0xE) rfl,
   sample .swi rfl⟩

end Sys2Proof

/-! ### Lengths by addressing form

What `Instr.length` counts is the length that the meanings move PK : PC by (30_encoding.md R141). -/

namespace Sys2Proof.Machine

theorem length_encMem (op : Byte) (m : Mem) : 2 * (encMem op m).length = memLen m := by cases m <;> rfl

theorem length_encMemD (op : Byte) (m : Mem) : 2 * (encMemD op m).length = memLen m := by cases m <;> rfl

theorem length_encMemE (op : Byte) {m : Mem} (h : m.ind16OrExt = true) : 2 * (encMemE op m).length = memLen m := by
  cases m with
  | ind8 i ff => cases h
  | ind16 i gggg => rfl
  | ext hhll => rfl
  | eoff i => cases h

theorem length_encSrc8 (op : Byte) (m : Src8) : 2 * (encSrc8 op m).length = src8Len m := by
  cases m with
  | mem m => exact length_encMem op m
  | imm ii => rfl

theorem length_encSrcD (op imm8op : Byte) (m : Src16) : 2 * (encSrcD op imm8op m).length = src16Len m := by
  cases m with
  | mem m => exact length_encMemD op m
  | imm8 ii => rfl
  | imm16 jjkk => rfl

theorem length_encSrcE (op imm8op : Byte) {m : Src16} (h : m.formsE = true) :
    2 * (encSrcE op imm8op m).length = src16Len m := by
  cases m with
  | mem m => exact length_encMemE op h
  | imm8 ii => rfl
  | imm16 jjkk => rfl

theorem length_encSrcIndex (op immOp : Byte) {m : Src16} (h : m.formsIndex = true) :
    2 * (encSrcIndex op immOp m).length = src16Len m := by
  cases m with
  | mem m => exact length_encMem op m
  | imm8 ii => cases h
  | imm16 jjkk => rfl

end Sys2Proof.Machine

/-! ### What an instruction in sequence completes with

Such an instruction makes its bus cycles, then replaces registers, then moves PK : PC past itself. Its result is said by
three facts: what the bus cycles leave, the function on the registers, and the update of the CCR in it. -/

namespace Sys2Proof.Machine

/-- The registers replaced by a function of what they are. -/
def State.mapReg (s : State) (f : Regs → Regs) : State := { s with reg := f s.reg }

/-- An operation's update of the CCR from `c` to `d`: PK and every bit from SM up that is not listed stay, and `flags`
holds of the result, whatever PK becomes when the program counter moves on (10_state.md R53). -/
structure CcrUpdate (bits : List Nat) (flags : Word → Prop) (c d : Word) : Prop where
  pk : fieldPK d = fieldPK c
  kept : ∀ k, 4 ≤ k → k < 16 → k ∉ bits → d.getLsbD k = c.getLsbD k
  flags : ∀ p : Ext, flags (withPK p d)

/-- An operation that leaves the CCR alone. -/
theorem CcrUpdate.unchanged (c : Word) : CcrUpdate [] anyFlags c c :=
  ⟨rfl, fun _ _ _ _ => rfl, fun _ => trivial⟩

/-- N and Z of a value, V cleared (41_arithmetic.md R262). -/
theorem CcrUpdate.setNZ0 {w : Nat} (v : BitVec w) (c : Word) : CcrUpdate [11, 10, 9] (NZ0Of v) c (setNZ0 v c) where
  pk := by simp [Machine.setNZ0, setNZ]
  kept k _ _ hk := by
    simp only [List.mem_cons, List.not_mem_nil, or_false, not_or] at hk
    obtain ⟨hN, hZ, hV⟩ := hk
    rw [getLsbD_setNZ0, if_neg hV, if_neg hN, if_neg hZ]
  flags p := by
    simp only [NZ0Of, NZOf, Machine.setNZ0, setNZ, flagN_withPK, flagN_withV, flagN_withN, flagZ_withPK, flagZ_withV,
      flagZ_withN, flagZ_withZ, flagV_withPK, flagV_withV, BitVec.msb_eq_getLsbD_last, and_true, true_and]
    rfl

section
variable {i : Instr} {s t : State} {f : Regs → Regs} {r : Regs} {bits : List Nat} {flags : Word → Prop} {n : Nat}
  {a : Addr}

/-- Registers, PK : PC and CCR at the end of an instruction whose bus cycles led from `s` to `t`. -/
theorem BusKept.registers_after (kept : BusKept s t)
    (regs : f s.reg = { r with pc := s.reg.pc, ccr := (f s.reg).ccr })
    (ccr : CcrUpdate bits flags s.reg.ccr (f s.reg).ccr) (len : i.length = n) :
    RegsBecome r ((t.mapReg f).advance n) ∧ Advanced i s ((t.mapReg f).advance n) ∧
      CcrKept bits s ((t.mapReg f).advance n) ∧ flags ((t.mapReg f).advance n).reg.ccr := by
  have mapped : (t.mapReg f).reg = f s.reg := congrArg f kept.reg
  have pkpc : (t.mapReg f).pkpc = s.pkpc :=
    State.pkpc_congr (by rw [mapped, regs]) (by rw [mapped, ccr.pk])
  have keeps : CcrKept bits s (t.mapReg f) := by
    unfold CcrKept
    rw [mapped]
    exact ccr.kept
  refine ⟨?become, ?advanced, keeps.of_withPK rfl, ?holds⟩
  case become => rw [RegsBecome, State.reg_advance, mapped, regs]
  case advanced => rw [Advanced, State.pkpc_advance, pkpc, len]
  case holds =>
    rw [State.advance_reg_ccr, mapped]
    exact ccr.flags _

/-- An instruction whose bus cycles led from `s` to `t`; `stored` is what is claimed of data space. -/
theorem BusKept.completes {stored : State → Prop} (kept : BusKept s t) (memory : stored ((t.mapReg f).advance n))
    (runs : exec i s = .next ((t.mapReg f).advance n))
    (regs : f s.reg = { r with pc := s.reg.pc, ccr := (f s.reg).ccr })
    (ccr : CcrUpdate bits flags s.reg.ccr (f s.reg).ccr) (len : i.length = n) :
    Completes i s fun u =>
      RegsBecome r u ∧ Advanced i s u ∧ CcrKept bits s u ∧ flags u.reg.ccr ∧ u.mac = s.mac ∧ ControlKept s u ∧
        stored u ∧ OutsideKept s u :=
  have ⟨become, advanced, keeps, holds⟩ := kept.registers_after regs ccr len
  ⟨_, runs, become, advanced, keeps, holds, kept.mac, kept.ctl, memory, kept.out⟩

/-- An instruction without a bus access. -/
theorem Computes.of_mapReg (runs : exec i s = .next ((s.mapReg f).advance n))
    (regs : f s.reg = { r with pc := s.reg.pc, ccr := (f s.reg).ccr })
    (ccr : CcrUpdate bits flags s.reg.ccr (f s.reg).ccr) (len : i.wellFormed = true → i.length = n) :
    Computes i s r bits flags := fun wf =>
  have ⟨become, advanced, keeps, holds⟩ := (BusKept.refl s).registers_after regs ccr (len wf)
  ⟨_, runs, become, advanced, keeps, holds, rfl, rfl, DataKept.of_mem rfl, rfl, rfl⟩

/-- An instruction whose bus cycles, if it makes any, are reads. -/
theorem ReadsInto.of_mapReg (reads : s.executing = true → BusKept s t ∧ t.mem = s.mem)
    (runs : exec i s = .next ((t.mapReg f).advance n))
    (regs : f s.reg = { r with pc := s.reg.pc, ccr := (f s.reg).ccr })
    (ccr : CcrUpdate bits flags s.reg.ccr (f s.reg).ccr) (len : i.wellFormed = true → i.length = n) :
    ReadsInto i s r bits flags := fun wf hs =>
  have ⟨kept, mem⟩ := reads hs
  kept.completes (DataKept.of_mem mem) runs regs ccr (len wf)

/-- An instruction whose bus cycles store a byte. -/
theorem WritesByte.of_mapReg {v : Byte} (stores : s.executing = true → BusKept s t ∧ StoresByte s t a v)
    (runs : exec i s = .next ((t.mapReg f).advance n))
    (regs : f s.reg = { r with pc := s.reg.pc, ccr := (f s.reg).ccr })
    (ccr : CcrUpdate bits flags s.reg.ccr (f s.reg).ccr) (len : i.wellFormed = true → i.length = n) :
    WritesByte i s r bits flags a v := fun wf hs =>
  have ⟨kept, stored⟩ := stores hs
  kept.completes (stored := fun u => StoresByte s u a v) stored runs regs ccr (len wf)

/-- An instruction whose bus cycles store a word. -/
theorem WritesWord.of_mapReg {v : Word} (stores : s.executing = true → BusKept s t ∧ StoresWord s t a v)
    (runs : exec i s = .next ((t.mapReg f).advance n))
    (regs : f s.reg = { r with pc := s.reg.pc, ccr := (f s.reg).ccr })
    (ccr : CcrUpdate bits flags s.reg.ccr (f s.reg).ccr) (len : i.wellFormed = true → i.length = n) :
    WritesWord i s r bits flags a v := fun wf hs =>
  have ⟨kept, stored⟩ := stores hs
  kept.completes (stored := fun u => StoresWord s u a v) stored runs regs ccr (len wf)

end

end Sys2Proof.Machine

/-! ### Data movement: loads, stores and transfers (40_data_movement.md) -/

namespace Sys2Proof.Machine

/-- A register loaded with a byte or word operand: `put` says which (40_data_movement.md R202). -/
theorem ReadsInto.of_load {i : Instr} {s t : State} {w n : Nat} {v : BitVec w} (put : Regs → Regs)
    (reads : s.executing = true → BusKept s t ∧ t.mem = s.mem)
    (runs : exec i s = .next ((t.mapReg fun r => { put r with ccr := setNZ0 v r.ccr }).advance n))
    (pc : (put s.reg).pc = s.reg.pc) (len : i.wellFormed = true → i.length = n) :
    ReadsInto i s (put s.reg) [11, 10, 9] (NZ0Of v) :=
  .of_mapReg reads runs (by rw [← pc]) (.setNZ0 v _) len

/-- Settles O16: each load reads its operand, replaces one register, and takes the flags from the operand. -/
theorem loadsRegisters : Obligations.LoadsRegisters := by
  refine ⟨fun s m => ⟨?ldaa, ?ldab⟩, fun s m => ⟨?ldd, ?lde, ?ldx, ?ldy, ?ldz, ?lds⟩⟩
  case ldaa =>
    exact .of_load (fun r => { r with a := s.m8 m }) (s.src8_spec m) rfl rfl fun _ => length_encSrc8 _ m
  case ldab =>
    exact .of_load (fun r => { r with b := s.m8 m }) (s.src8_spec m) rfl rfl fun _ => length_encSrc8 _ m
  case ldd =>
    exact .of_load (fun r => r.withD (s.m16 m)) (s.src16_spec m) rfl rfl fun _ => length_encSrcD _ _ m
  case lde =>
    exact .of_load (fun r => { r with e := s.m16 m }) (s.src16_spec m) rfl rfl fun wf => length_encSrcE _ _ wf
  case ldx =>
    exact .of_load (fun r => { r with ix := s.m16 m }) (s.src16_spec m) rfl rfl fun wf => length_encSrcIndex _ _ wf
  case ldy =>
    exact .of_load (fun r => { r with iy := s.m16 m }) (s.src16_spec m) rfl rfl fun wf => length_encSrcIndex _ _ wf
  case ldz =>
    exact .of_load (fun r => { r with iz := s.m16 m }) (s.src16_spec m) rfl rfl fun wf => length_encSrcIndex _ _ wf
  case lds =>
    exact .of_load (fun r => { r with sp := s.m16 m }) (s.src16_spec m) rfl rfl fun wf => length_encSrcIndex _ _ wf

/-- A store of a byte register (40_data_movement.md R202). -/
theorem WritesByte.of_store {i : Instr} {s : State} {m : Mem} {v : Byte} (runs : exec i s = .next (s.store8 v m))
    (len : i.wellFormed = true → i.length = memLen m) :
    WritesByte i s s.reg [11, 10, 9] (NZ0Of v) (s.ea m) v :=
  .of_mapReg (f := fun r => { r with ccr := setNZ0 v r.ccr }) (s.write8_spec (s.ea m) v) runs rfl (.setNZ0 v _) len

/-- A store of a word register (40_data_movement.md R202). -/
theorem WritesWord.of_store {i : Instr} {s : State} {m : Mem} {v : Word} (runs : exec i s = .next (s.store16 v m))
    (len : i.wellFormed = true → i.length = memLen m) :
    WritesWord i s s.reg [11, 10, 9] (NZ0Of v) (s.ea m) v :=
  .of_mapReg (f := fun r => { r with ccr := setNZ0 v r.ccr }) (s.write16_spec (s.ea m) v) runs rfl (.setNZ0 v _) len

/-- Settles O17: each store writes its register at the effective address and takes the flags from it. -/
theorem storesRegisters : Obligations.StoresRegisters := by
  intro s m a
  refine ⟨?staa, ?stab, ?std, ?ste, ?stx, ?sty, ?stz, ?sts⟩
  case staa => exact .of_store rfl fun _ => length_encMem _ m
  case stab => exact .of_store rfl fun _ => length_encMem _ m
  case std => exact .of_store rfl fun _ => length_encMemD _ m
  case ste => exact .of_store rfl fun wf => length_encMemE _ wf
  case stx => exact .of_store rfl fun _ => length_encMem _ m
  case sty => exact .of_store rfl fun _ => length_encMem _ m
  case stz => exact .of_store rfl fun _ => length_encMem _ m
  case sts => exact .of_store rfl fun _ => length_encMem _ m

/-- A transfer between registers takes the flags from the value moved (40_data_movement.md R202). -/
theorem Computes.of_transfer {i : Instr} {s : State} {w : Nat} {v : BitVec w} (put : Regs → Regs)
    (runs : exec i s = .next ((s.mapReg fun r => { put r with ccr := setNZ0 v r.ccr }).advance 2))
    (pc : (put s.reg).pc = s.reg.pc) (len : i.length = 2) : Computes i s (put s.reg) [11, 10, 9] (NZ0Of v) :=
  .of_mapReg runs (by rw [← pc]) (.setNZ0 v _) fun _ => len

/-- An exchange between registers leaves the CCR alone (40_data_movement.md R226, R227). -/
theorem Computes.of_exchange {i : Instr} {s : State} (put : Regs → Regs)
    (runs : exec i s = .next ((s.mapReg put).advance 2)) (pc : (put s.reg).pc = s.reg.pc)
    (ccr : (put s.reg).ccr = s.reg.ccr) (len : i.length = 2) : Computes i s (put s.reg) [] anyFlags :=
  .of_mapReg runs (by rw [← pc]) (by rw [ccr]; exact .unchanged _) fun _ => len

/-- Settles O20: the transfers and exchanges of A, B, D and E. -/
theorem accumulatorTransfers : Obligations.AccumulatorTransfers := by
  intro s
  refine ⟨?tab, ?tba, ?tde, ?ted, ?xgab, ?xgde⟩
  case tab => exact .of_transfer (fun r => { r with b := s.reg.a }) rfl rfl rfl
  case tba => exact .of_transfer (fun r => { r with a := s.reg.b }) rfl rfl rfl
  case tde => exact .of_transfer (fun r => { r with e := s.d }) rfl rfl rfl
  case ted => exact .of_transfer (fun r => r.withD s.reg.e) rfl rfl rfl
  case xgab => exact .of_exchange (fun r => { r with a := s.reg.b, b := s.reg.a }) rfl rfl rfl rfl
  case xgde => exact .of_exchange (fun r => r.withED s.d s.reg.e) rfl rfl rfl rfl

end Sys2Proof.Machine

/-! ### Data movement: moves and long moves (40_data_movement.md R214 to R216, R221) -/

namespace Sys2Proof.Machine

/-- A store after bus cycles that changed no byte. -/
theorem StoresByte.after_reads {s t u : State} {a : Addr} {v : Byte} (kept : BusKept s t) (mem : t.mem = s.mem)
    (stored : StoresByte t u a v) : StoresByte s u a v := fun b => by
  rw [stored b, kept.writable, DataKept.of_mem mem b]

theorem StoresWord.after_reads {s t u : State} {a : Addr} {v : Word} (kept : BusKept s t) (mem : t.mem = s.mem)
    (stored : StoresWord t u a v) : StoresWord s u a v := fun b => by
  rw [stored b, kept.writable, kept.writable, DataKept.of_mem mem b]

/-- The bus cycles of MOVB: one read at `a`, one write at `b`. -/
theorem State.move8_spec (s : State) (a b : Addr) (hs : s.executing = true) :
    BusKept s ((s.read8 a).2.write8 b (s.byteAt a)) ∧
      StoresByte s ((s.read8 a).2.write8 b (s.byteAt a)) b (s.byteAt a) :=
  have ⟨read, mem, _⟩ := s.read8_spec a hs
  have ⟨kept, stored⟩ := (s.read8 a).2.write8_spec b (s.byteAt a) (read.executing hs)
  ⟨read.trans kept, stored.after_reads read mem⟩

/-- The bus cycles of MOVW. -/
theorem State.move16_spec (s : State) (a b : Addr) (hs : s.executing = true) :
    BusKept s ((s.read16 a).2.write16 b (s.wordAt a)) ∧
      StoresWord s ((s.read16 a).2.write16 b (s.wordAt a)) b (s.wordAt a) :=
  have ⟨read, mem, _⟩ := s.read16_spec a hs
  have ⟨kept, stored⟩ := (s.read16 a).2.write16_spec b (s.wordAt a) (read.executing hs)
  ⟨read.trans kept, stored.after_reads read mem⟩

/-- The registers after a move of `v` with post-modification by `off`: XK : IX and the flags (20_memory.md R120). -/
def Regs.postModified {w : Nat} (off : Byte) (v : BitVec w) (r : Regs) : Regs :=
  { r.withX (pair r.xk r.ix + BitVec.ofInt 20 off.toInt) with ccr := setNZ0 v r.ccr }

/-- Settles O19: each form reads at one address and writes at the other; the indexed ones move XK : IX on. -/
theorem moves : Obligations.Moves := by
  intro s ff p q a b moved
  refine ⟨?byteToExt, ?byteToIxp, ?byte, ?wordToExt, ?wordToIxp, ?word⟩
  case byteToExt =>
    exact .of_mapReg (f := .postModified ff (s.byteAt s.xkix)) (s.move8_spec s.xkix a) rfl rfl (.setNZ0 _ _)
      fun _ => rfl
  case byteToIxp =>
    exact .of_mapReg (f := .postModified ff (s.byteAt a)) (s.move8_spec a s.xkix) rfl rfl (.setNZ0 _ _) fun _ => rfl
  case byte =>
    exact .of_mapReg (f := fun r => { r with ccr := setNZ0 (s.byteAt a) r.ccr }) (s.move8_spec a b) rfl rfl
      (.setNZ0 _ _) fun _ => rfl
  case wordToExt =>
    exact .of_mapReg (f := .postModified ff (s.wordAt s.xkix)) (s.move16_spec s.xkix a) rfl rfl (.setNZ0 _ _)
      fun _ => rfl
  case wordToIxp =>
    exact .of_mapReg (f := .postModified ff (s.wordAt a)) (s.move16_spec a s.xkix) rfl rfl (.setNZ0 _ _) fun _ => rfl
  case word =>
    exact .of_mapReg (f := fun r => { r with ccr := setNZ0 (s.wordAt a) r.ccr }) (s.move16_spec a b) rfl rfl
      (.setNZ0 _ _) fun _ => rfl

theorem add_two_add_one (a : Addr) : a + 2 + 1 = a + 3 := by bv_omega

theorem readable_of_readableFrom_four {s : State} {a : Addr} (h : s.readableFrom a 4 = true) :
    s.readable a = true ∧ s.readable (a + 1) = true ∧ s.readable (a + 2) = true ∧ s.readable (a + 2 + 1) = true := by
  rw [add_two_add_one]
  simpa [State.readableFrom, List.range_succ, and_assoc] using h

theorem State.setE_setD (t : State) (e d : Word) : (t.setE e).setD d = t.mapReg fun r => r.withED e d := rfl

theorem exec_lded (hhll : BitVec 16) (s : State) :
    let a := pair s.reg.ek hhll
    exec (.lded hhll) s = .next ((((s.read16 a).2.read16 (a + 2)).2.mapReg fun r =>
      r.withED (s.read16 a).1 ((s.read16 a).2.read16 (a + 2)).1).advance 4) := by
  show execLded hhll s = _
  rw [execLded, State.setE_setD]

/-- The bus cycles of LDED: a word at `a`, then the word two bytes above. -/
theorem State.read16_read16_spec (s : State) (a : Addr) (hs : s.executing = true) :
    BusKept s ((s.read16 a).2.read16 (a + 2)).2 ∧ ((s.read16 a).2.read16 (a + 2)).2.mem = s.mem :=
  have ⟨high, highMem, _⟩ := s.read16_spec a hs
  have ⟨low, lowMem, _⟩ := (s.read16 a).2.read16_spec (a + 2) (high.executing hs)
  ⟨high.trans low, lowMem.trans highMem⟩

/-- Where memory answers at all four bytes, LDED reads the two words there. -/
theorem State.read16_read16_memory (s : State) (a : Addr) (h : s.readableFrom a 4 = true) :
    (s.read16 a).1 = s.dataWord a ∧ ((s.read16 a).2.read16 (a + 2)).1 = s.dataWord (a + 2) := by
  obtain ⟨r0, r1, r2, r3⟩ := readable_of_readableFrom_four h
  obtain ⟨kept, mem, high, -⟩ := s.read16_memory_spec a r0 r1
  obtain ⟨-, -, low, -⟩ :=
    (s.read16 a).2.read16_memory_spec (a + 2) ((kept.readable _).trans r2) ((kept.readable _).trans r3)
  refine ⟨high, low.trans ?_⟩
  simp only [State.dataWord, DataKept.of_mem mem _]

/-- The bytes of a word, high byte first. -/
theorem StoresWord.storesCells {s t : State} {a : Addr} {v : Word} (stored : StoresWord s t a v) :
    StoresCells s t [(a, hi v), (a + 1, lo v)] := by
  intro b
  have ne := add_one_ne a
  rw [stored b]
  generalize a + 1 = c at ne
  by_cases ha : b = a
  · subst ha
    simp [ne.symm]
  · by_cases hc : b = c
    · subst hc
      simp [ha, ne.symm]
    · simp [ha, hc, Ne.symm ha, Ne.symm hc]

/-- Stores one after another at distinct addresses are the stores of one list. -/
theorem StoresCells.append {s t u : State} {cs ds : List (Addr × Byte)} (kept : BusKept s t)
    (first : StoresCells s t cs) (second : StoresCells t u ds) (distinct : ∀ c ∈ cs, ∀ d ∈ ds, c.1 ≠ d.1) :
    StoresCells s u (cs ++ ds) := by
  intro b
  rw [second b, first b, kept.writable, List.find?_append]
  cases found : ds.find? (fun e => e.1 == b) with
  | none => rw [Option.or_none]
  | some d =>
    have hd : d.1 = b := by simpa using List.find?_some found
    have absent : cs.find? (fun e => e.1 == b) = none := List.find?_eq_none.mpr fun c hc => by
      rw [beq_iff_eq, ← hd]
      exact distinct c hc d (List.mem_of_find?_eq_some found)
    rw [absent, Option.none_or]

/-- Two words stored one above the other are four bytes in a row. -/
theorem StoresWord.storesCells_long {s t u : State} {a : Addr} {v w : Word} (kept : BusKept s t)
    (high : StoresWord s t a v) (low : StoresWord t u (a + 2) w) :
    StoresCells s u [(a, hi v), (a + 1, lo v), (a + 2, hi w), (a + 3, lo w)] := by
  have lower := low.storesCells
  rw [add_two_add_one] at lower
  exact high.storesCells.append kept lower (by simp)

/-- Settles O18: LDED reads two words and STED writes two, the high word at the lower address. -/
theorem longMoves : Obligations.LongMoves := by
  intro s hhll a
  refine ⟨⟨_, _, ?lded, s.read16_read16_memory a⟩, fun hs => ?sted⟩
  case lded =>
    exact .of_mapReg (s.read16_read16_spec a) (exec_lded hhll s) rfl (.unchanged _) fun _ => rfl
  case sted =>
    have ⟨first, high⟩ := s.write16_spec a s.reg.e hs
    have ⟨second, low⟩ := (s.write16 a s.reg.e).write16_spec (a + 2) s.d (first.executing hs)
    have kept := first.trans second
    have ⟨become, advanced, keeps, _⟩ :=
      kept.registers_after (i := .sted hhll) (f := id) (r := s.reg) (n := 4) rfl (.unchanged _) rfl
    exact ⟨_, rfl, become, advanced, keeps, kept.mac, kept.ctl, kept.out, high.storesCells_long first low⟩

end Sys2Proof.Machine

/-! ### Arithmetic: carries and borrows

The manual gives H, C and V as functions of one bit of each operand and of the result (41_arithmetic.md R260, R261); the
model computes them from the numbers. -/

namespace Sys2Proof.Machine

/-- A bit of the sum of two numbers and a carry. -/
theorem getLsbD_ofNat_add {w k : Nat} (hk : k < w) (x m : BitVec w) (c : Bool) :
    (BitVec.ofNat w (x.toNat + m.toNat + c.toNat)).getLsbD k =
      (x.getLsbD k ^^ (m.getLsbD k ^^ BitVec.carry k x m c)) := by
  rw [← BitVec.getLsbD_add_add_bool hk]
  congr 1
  apply BitVec.eq_of_toNat_eq
  cases c <;> simp

/-- The carry out of bit `k`, by the equation of H and of C (41_arithmetic.md R260). -/
theorem carry_succ_eq {w k : Nat} (hk : k < w) (x m : BitVec w) (c : Bool) :
    let X := x.getLsbD k
    let M := m.getLsbD k
    let R := (BitVec.ofNat w (x.toNat + m.toNat + c.toNat)).getLsbD k
    BitVec.carry (k + 1) x m c = (X && M || M && !R || !R && X) := by
  intro X M R
  have hR : R = (X ^^ (M ^^ BitVec.carry k x m c)) := getLsbD_ofNat_add hk x m c
  have majority : ∀ X M K : Bool,
      Bool.atLeastTwo X M K = (X && M || M && !(X ^^ (M ^^ K)) || !(X ^^ (M ^^ K)) && X) := by decide
  rw [BitVec.carry_succ, hR]
  exact majority _ _ _

/-- The carry out of the most significant bit (41_arithmetic.md R260). -/
theorem decide_le_sum_eq {w : Nat} (hw : 0 < w) (x m : BitVec w) (c : Bool) :
    let X := x.getLsbD (w - 1)
    let M := m.getLsbD (w - 1)
    let R := (BitVec.ofNat w (x.toNat + m.toNat + c.toNat)).getLsbD (w - 1)
    decide (2 ^ w ≤ x.toNat + m.toNat + c.toNat) = (X && M || M && !R || !R && X) := by
  intro X M R
  rw [← carry_succ_eq (Nat.sub_lt hw Nat.one_pos), Nat.sub_add_cancel hw, BitVec.carry_width]

/-- A difference with a borrow, moved up by the modulus, is the sum with the complement and the inverted borrow. -/
theorem sum_not_eq_difference {w : Nat} (x m : BitVec w) (c : Bool) :
    ((x.toNat + (~~~m).toNat + (!c).toNat : Nat) : Int) = (x.toNat : Int) - m.toNat - c.toNat + (2 ^ w : Nat) := by
  have hm : m.toNat < 2 ^ w := m.isLt
  rw [BitVec.toNat_not]
  generalize 2 ^ w = p at hm ⊢
  cases c <;> simp only [Bool.toNat_true, Bool.toNat_false, Bool.not_true, Bool.not_false] <;> omega

theorem ofInt_difference_eq {w : Nat} (x m : BitVec w) (c : Bool) :
    BitVec.ofInt w ((x.toNat : Int) - m.toNat - c.toNat) =
      BitVec.ofNat w (x.toNat + (~~~m).toNat + (!c).toNat) := by
  rw [← BitVec.ofInt_natCast, sum_not_eq_difference]
  apply BitVec.eq_of_toNat_eq
  rw [BitVec.toNat_ofInt, BitVec.toNat_ofInt, Int.add_emod_right]

/-- The borrow into the most significant bit (41_arithmetic.md R261). -/
theorem decide_difference_neg_eq {w : Nat} (hw : 0 < w) (x m : BitVec w) (c : Bool) :
    let X := x.getLsbD (w - 1)
    let M := m.getLsbD (w - 1)
    let R := (BitVec.ofInt w ((x.toNat : Int) - m.toNat - c.toNat)).getLsbD (w - 1)
    decide ((x.toNat : Int) - m.toNat - c.toNat < 0) = (!X && M || M && R || R && !X) := by
  intro X M R
  have borrow : decide ((x.toNat : Int) - m.toNat - c.toNat < 0) =
      !decide (2 ^ w ≤ x.toNat + (~~~m).toNat + (!c).toNat) := by
    have sum := sum_not_eq_difference x m c
    rw [← decide_not, decide_eq_decide]
    omega
  have hR : R = (BitVec.ofNat w (x.toNat + (~~~m).toNat + (!c).toNat)).getLsbD (w - 1) := by
    rw [← ofInt_difference_eq]
  have hM : (~~~m).getLsbD (w - 1) = !M := by
    rw [BitVec.getLsbD_not, decide_eq_true (Nat.sub_lt hw Nat.one_pos), Bool.true_and]
  have dual : ∀ X M R : Bool, (!(X && !M || !M && !R || !R && X)) = (!X && M || M && R || R && !X) := by decide
  rw [borrow, decide_le_sum_eq hw, ← hR, hM, dual]

/-- The carry out of bit 3 (41_arithmetic.md R260). -/
theorem halfCarry_eq (c : Bool) (x m : Byte) :
    let R := (BitVec.ofNat 8 (x.toNat + m.toNat + c.toNat)).getLsbD 3
    halfCarry c x m = (x.getLsbD 3 && m.getLsbD 3 || m.getLsbD 3 && !R || !R && x.getLsbD 3) :=
  carry_succ_eq (k := 3) (by decide) x m c

end Sys2Proof.Machine

/-! ### What the operations of the arithmetic unit give (41_arithmetic.md R260 to R263, 43_logic_bit.md R370) -/

namespace Sys2Proof.Machine

theorem CcrUpdate.setNZ {w : Nat} (r : BitVec w) (c : Word) : CcrUpdate [11, 10] (NZOf r) c (setNZ r c) where
  pk := by simp [Machine.setNZ]
  kept k _ _ hk := by
    simp only [List.mem_cons, List.not_mem_nil, or_false, not_or] at hk
    obtain ⟨hN, hZ⟩ := hk
    rw [getLsbD_setNZ, if_neg hN, if_neg hZ]
  flags p := by
    simp only [NZOf, Machine.setNZ, flagN_withPK, flagN_withN, flagZ_withPK, flagZ_withN, flagZ_withZ,
      BitVec.msb_eq_getLsbD_last, true_and]
    rfl

/-- N and Z of a result and a given V; C stays. -/
theorem CcrUpdate.withV_setNZ {w : Nat} (r : BitVec w) (v : Bool) (c : Word) :
    CcrUpdate [11, 10, 9] (fun f => NZOf r f ∧ flagV f = v) c (withV v (Machine.setNZ r c)) where
  pk := by simp [Machine.setNZ]
  kept k _ _ hk := by
    simp only [List.mem_cons, List.not_mem_nil, or_false, not_or] at hk
    obtain ⟨hN, hZ, hV⟩ := hk
    rw [getLsbD_withV, if_neg hV, getLsbD_setNZ, if_neg hN, if_neg hZ]
  flags p := by
    simp only [NZOf, Machine.setNZ, flagN_withPK, flagN_withV, flagN_withN, flagZ_withPK, flagZ_withV, flagZ_withN,
      flagZ_withZ, flagV_withPK, flagV_withV, BitVec.msb_eq_getLsbD_last, and_true, true_and]
    rfl

theorem CcrUpdate.setNZVC {w : Nat} (r : BitVec w) (v cy : Bool) (c : Word) :
    CcrUpdate [11, 10, 9, 8] (fun f => NZOf r f ∧ flagV f = v ∧ flagC f = cy) c (setNZVC r v cy c) where
  pk := by simp [Machine.setNZVC, Machine.setNZ]
  kept k _ _ hk := by
    simp only [List.mem_cons, List.not_mem_nil, or_false, not_or] at hk
    obtain ⟨hN, hZ, hV, hC⟩ := hk
    rw [getLsbD_setNZVC, if_neg hC, if_neg hV, if_neg hN, if_neg hZ]
  flags p := by
    simp only [NZOf, Machine.setNZVC, Machine.setNZ, flagN_withPK, flagN_withC, flagN_withV, flagN_withN, flagZ_withPK,
      flagZ_withC, flagZ_withV, flagZ_withN, flagZ_withZ, flagV_withPK, flagV_withC, flagV_withV, flagC_withPK,
      flagC_withC, BitVec.msb_eq_getLsbD_last, and_true, true_and]
    rfl

/-- A claim on the flags that follows from another. -/
theorem CcrUpdate.imp {bits : List Nat} {P Q : Word → Prop} {c d : Word} (u : CcrUpdate bits P c d)
    (h : ∀ f, P f → Q f) : CcrUpdate bits Q c d :=
  ⟨u.pk, u.kept, fun p => h _ (u.flags p)⟩

theorem withPK_withH (p : Ext) (v : Bool) (c : Word) : withPK p (withH v c) = withH v (withPK p c) :=
  ccr_ext fun k _ => by
    rw [getLsbD_withPK, getLsbD_withH, getLsbD_withH, getLsbD_withPK]
    by_cases pk : k < 4
    · rw [if_pos pk, if_pos pk, if_neg (by omega)]
    · rw [if_neg pk, if_neg pk]

/-- H replaced as well. -/
theorem CcrUpdate.withH {bits : List Nat} {P : Word → Prop} {c d : Word} (u : CcrUpdate bits P c d) (v : Bool)
    (stays : ∀ f, P f → P (withH v f)) :
    CcrUpdate (13 :: bits) (fun f => P f ∧ flagH f = v) c (withH v d) where
  pk := by rw [fieldPK_withH, u.pk]
  kept k h4 h16 hk := by
    obtain ⟨hH, hk⟩ := not_or.mp (mt List.mem_cons.mpr hk)
    rw [getLsbD_withH, if_neg hH, u.kept k h4 h16 hk]
  flags p := by
    rw [withPK_withH]
    exact ⟨stays _ (u.flags p), flagH_withH _ _⟩

/-- The pair `p` that an operation answers for the CCR `c`: its value is `v`, and its CCR is `c` updated. -/
structure OpResult {w : Nat} (bits : List Nat) (flags : Word → Prop) (v : BitVec w) (c : Word) (p : BitVec w × Word) :
    Prop where
  value : p.1 = v
  ccr : CcrUpdate bits flags c p.2

/-- ADDFLAGS without H (41_arithmetic.md R260). -/
theorem OpResult.addWith {w : Nat} (hw : 0 < w) (cin : Bool) (x m : BitVec w) (c : Word) :
    OpResult [11, 10, 9, 8] (AddEquations x m (BitVec.ofNat w (x.toNat + m.toNat + cin.toNat)))
      (BitVec.ofNat w (x.toNat + m.toNat + cin.toNat)) c (addWith cin x m c) where
  value := rfl
  ccr := (CcrUpdate.setNZVC _ _ _ c).imp fun f ⟨nz, overflow, carry⟩ => by
    refine ⟨nz, overflow.trans ?_, carry.trans (decide_le_sum_eq hw x m cin)⟩
    simp only [BitVec.msb_eq_getLsbD_last]
    have signs : ∀ X M R : Bool, (X == M && R != X) = (X && M && !R || !X && !M && R) := by decide
    exact signs _ _ _

/-- ADDFLAGS of bytes, with H (41_arithmetic.md R260). -/
theorem OpResult.addWithH (cin : Bool) (x m : Byte) (c : Word) :
    OpResult [13, 11, 10, 9, 8] (AddEquationsH x m (BitVec.ofNat 8 (x.toNat + m.toNat + cin.toNat)))
      (BitVec.ofNat 8 (x.toNat + m.toNat + cin.toNat)) c (addWithH cin x m c) where
  value := rfl
  ccr := ((OpResult.addWith (by decide) cin x m c).ccr.withH (halfCarry cin x m) fun f h => by
      simpa only [AddEquations, NZOf, flagN_withH, flagZ_withH, flagV_withH, flagC_withH] using h).imp
    fun f ⟨sum, half⟩ => ⟨sum, half.trans (halfCarry_eq cin x m)⟩

/-- SUBFLAGS (41_arithmetic.md R261). -/
theorem OpResult.subWith {w : Nat} (hw : 0 < w) (cin : Bool) (x m : BitVec w) (c : Word) :
    OpResult [11, 10, 9, 8] (SubEquations x m (BitVec.ofInt w ((x.toNat : Int) - m.toNat - cin.toNat)))
      (BitVec.ofInt w ((x.toNat : Int) - m.toNat - cin.toNat)) c (subWith cin x m c) where
  value := rfl
  ccr := (CcrUpdate.setNZVC _ _ _ c).imp fun f ⟨nz, overflow, borrow⟩ => by
    refine ⟨nz, overflow.trans ?_, borrow.trans (decide_difference_neg_eq hw x m cin)⟩
    simp only [BitVec.msb_eq_getLsbD_last]
    have signs : ∀ X M R : Bool, (X != M && R != X) = (X && !M && !R || !X && M && R) := by decide
    exact signs _ _ _

/-- A compare: the difference without a borrow-in (41_arithmetic.md R261). -/
theorem OpResult.sub {w : Nat} (hw : 0 < w) (x m : BitVec w) (c : Word) :
    OpResult [11, 10, 9, 8] (SubEquations x m (x - m)) (x - m) c (Machine.sub x m c) := by
  have difference : BitVec.ofInt w ((x.toNat : Int) - m.toNat - false.toNat) = x - m := by
    simp [Int.sub_eq_add_neg, BitVec.ofInt_add, BitVec.ofInt_neg, BitVec.sub_eq_add_neg]
  rw [← difference]
  exact .subWith hw false x m c

theorem OpResult.andOp {w : Nat} (x m : BitVec w) (c : Word) :
    OpResult [11, 10, 9] (NZ0Of (x &&& m)) (x &&& m) c (Machine.andOp x m c) := ⟨rfl, .setNZ0 _ c⟩

theorem OpResult.orOp {w : Nat} (x m : BitVec w) (c : Word) :
    OpResult [11, 10, 9] (NZ0Of (x ||| m)) (x ||| m) c (Machine.orOp x m c) := ⟨rfl, .setNZ0 _ c⟩

theorem OpResult.eorOp {w : Nat} (x m : BitVec w) (c : Word) :
    OpResult [11, 10, 9] (NZ0Of (x ^^^ m)) (x ^^^ m) c (Machine.eorOp x m c) := ⟨rfl, .setNZ0 _ c⟩

theorem OpResult.clearBits {w : Nat} (mask x : BitVec w) (c : Word) :
    OpResult [11, 10, 9] (NZ0Of (x &&& ~~~mask)) (x &&& ~~~mask) c (Machine.clearBits mask x c) := ⟨rfl, .setNZ0 _ c⟩

theorem OpResult.setBits {w : Nat} (mask x : BitVec w) (c : Word) :
    OpResult [11, 10, 9] (NZ0Of (x ||| mask)) (x ||| mask) c (Machine.setBits mask x c) := ⟨rfl, .setNZ0 _ c⟩

theorem OpResult.tstOp {w : Nat} (x : BitVec w) (c : Word) :
    OpResult [11, 10, 9, 8] (TstFlags x) x c (Machine.tstOp x c) where
  value := rfl
  ccr := (CcrUpdate.setNZVC x false false c).imp fun _ ⟨nz, v, cy⟩ => ⟨⟨nz, v⟩, cy⟩

theorem OpResult.comOp {w : Nat} (x : BitVec w) (c : Word) :
    OpResult [11, 10, 9, 8] (ComFlags x) (~~~x) c (Machine.comOp x c) where
  value := rfl
  ccr := (CcrUpdate.setNZVC (~~~x) false true c).imp fun _ ⟨nz, v, cy⟩ => ⟨⟨nz, v⟩, cy⟩

theorem OpResult.clrOp {w : Nat} (x : BitVec w) (c : Word) :
    OpResult [11, 10, 9, 8] ClrFlags 0 c (Machine.clrOp x c) where
  value := rfl
  ccr := (CcrUpdate.setNZVC 0#w false false c).imp fun _ ⟨⟨n, z⟩, v, cy⟩ =>
    ⟨n.trans BitVec.getLsbD_zero, z.trans (decide_eq_true rfl), v, cy⟩

/-- Equality with a number below the modulus. -/
theorem beq_ofNat_eq {w n : Nat} (h : n < 2 ^ w) (x : BitVec w) : (x == BitVec.ofNat w n) = decide (x.toNat = n) := by
  rw [Bool.eq_iff_iff, beq_iff_eq, decide_eq_true_iff, ← BitVec.toNat_inj, BitVec.toNat_ofNat, Nat.mod_eq_of_lt h]

theorem OpResult.incOp {w : Nat} (hw : 0 < w) (x : BitVec w) (c : Word) :
    OpResult [11, 10, 9] (IncFlags x) (x + 1) c (Machine.incOp x c) where
  value := rfl
  ccr := (CcrUpdate.withV_setNZ _ _ c).imp fun _ ⟨nz, v⟩ => by
    refine ⟨nz, v.trans ?_⟩
    have half : 0 < 2 ^ (w - 1) := Nat.two_pow_pos _
    have below : 2 ^ (w - 1) < 2 ^ w := Nat.two_pow_pred_lt_two_pow hw
    rw [beq_ofNat_eq (by omega), decide_eq_decide]
    omega

theorem OpResult.decOp {w : Nat} (hw : 0 < w) (x : BitVec w) (c : Word) :
    OpResult [11, 10, 9] (DecFlags x) (x - 1) c (Machine.decOp x c) where
  value := rfl
  ccr := (CcrUpdate.withV_setNZ _ _ c).imp fun _ ⟨nz, v⟩ =>
    ⟨nz, v.trans (beq_ofNat_eq (Nat.two_pow_pred_lt_two_pow hw) x)⟩

theorem OpResult.negOp {w : Nat} (hw : 0 < w) (x : BitVec w) (c : Word) :
    OpResult [11, 10, 9, 8] (NegFlags x) (-x) c (Machine.negOp x c) where
  value := BitVec.zero_sub x
  ccr := (CcrUpdate.setNZVC _ _ _ c).imp fun _ ⟨nz, v, cy⟩ => by
    rw [BitVec.ofNat_eq_ofNat, BitVec.zero_sub] at nz v
    refine ⟨nz, v.trans (beq_ofNat_eq (Nat.two_pow_pred_lt_two_pow hw) (-x)), cy.trans ?_⟩
    rw [Bool.eq_iff_iff]
    simp

end Sys2Proof.Machine

/-! ### Arithmetic and logic: one register and an operand -/

namespace Sys2Proof.Machine

/-- Where an operation takes its first operand and puts its result. -/
structure Place (w : Nat) where
  get : Regs → BitVec w
  put : Regs → BitVec w → Regs
  pc : ∀ r v, (put r v).pc = r.pc

namespace Place

def a : Place 8 := ⟨Regs.a, fun r v => { r with a := v }, fun _ _ => rfl⟩
def b : Place 8 := ⟨Regs.b, fun r v => { r with b := v }, fun _ _ => rfl⟩
def d : Place 16 := ⟨fun r => word r.a r.b, Regs.withD, fun _ _ => rfl⟩
def e : Place 16 := ⟨Regs.e, fun r v => { r with e := v }, fun _ _ => rfl⟩

/-- The operand is the given value and the result is discarded, as in the tests and compares. -/
def discard {w : Nat} (x : BitVec w) : Place w := ⟨fun _ => x, fun r _ => r, fun _ _ => rfl⟩

/-- The registers after an operation. -/
def update {w : Nat} (p : Place w) (op : UnOp w) (r : Regs) : Regs :=
  { p.put r (op (p.get r) r.ccr).1 with ccr := (op (p.get r) r.ccr).2 }

end Place

section
variable {i : Instr} {s t : State} {w n : Nat} {bits : List Nat} {flags : Word → Prop}

theorem Place.update_of_result {p : Place w} {op : UnOp w} {v : BitVec w} {r : Regs}
    (res : OpResult bits flags v r.ccr (op (p.get r) r.ccr)) :
    p.update op r = { p.put r v with pc := r.pc, ccr := (p.update op r).ccr } := by
  rw [Place.update, res.value, ← p.pc r v]

/-- An operation on registers alone. -/
theorem Computes.of_update {v : BitVec w} (p : Place w) (op : UnOp w)
    (runs : exec i s = .next ((s.mapReg (p.update op)).advance n))
    (res : OpResult bits flags v s.reg.ccr (op (p.get s.reg) s.reg.ccr)) (len : i.length = n) :
    Computes i s (p.put s.reg v) bits flags :=
  .of_mapReg runs (Place.update_of_result res) res.ccr fun _ => len

/-- An operation after bus cycles that only read. -/
theorem ReadsInto.of_update {v : BitVec w} (p : Place w) (op : UnOp w)
    (reads : s.executing = true → BusKept s t ∧ t.mem = s.mem)
    (runs : exec i s = .next ((t.mapReg (p.update op)).advance n))
    (res : OpResult bits flags v s.reg.ccr (op (p.get s.reg) s.reg.ccr)) (len : i.wellFormed = true → i.length = n) :
    ReadsInto i s (p.put s.reg v) bits flags :=
  .of_mapReg reads runs (Place.update_of_result res) res.ccr len

/-- A byte register and a byte operand. -/
theorem ReadsInto.of_src8 {m : Src8} {v : Byte} (p : Place 8) (op : BinOp 8)
    (runs : exec i s = .next (((s.src8 m).2.mapReg (p.update fun x => op x (s.m8 m))).advance (src8Len m)))
    (res : OpResult bits flags v s.reg.ccr (op (p.get s.reg) (s.m8 m) s.reg.ccr))
    (len : i.wellFormed = true → i.length = src8Len m) : ReadsInto i s (p.put s.reg v) bits flags :=
  .of_update p (fun x => op x (s.m8 m)) (s.src8_spec m) runs res len

/-- A word register and a word operand. -/
theorem ReadsInto.of_src16 {m : Src16} {v : Word} (p : Place 16) (op : BinOp 16)
    (runs : exec i s = .next (((s.src16 m).2.mapReg (p.update fun x => op x (s.m16 m))).advance (src16Len m)))
    (res : OpResult bits flags v s.reg.ccr (op (p.get s.reg) (s.m16 m) s.reg.ccr))
    (len : i.wellFormed = true → i.length = src16Len m) : ReadsInto i s (p.put s.reg v) bits flags :=
  .of_update p (fun x => op x (s.m16 m)) (s.src16_spec m) runs res len

end

theorem length_encSrcE_of_formsEOrImm8 (op imm8op : Byte) {m : Src16} (h : m.formsEOrImm8 = true) :
    2 * (encSrcE op imm8op m).length = src16Len m := by
  cases m with
  | mem m => exact length_encMemE op h
  | imm8 ii => rfl
  | imm16 jjkk => rfl

/-- Settles O21: each addition is ADDFLAGS of bytes on its register, with the carry-in 0 or C. -/
theorem addsBytes : Obligations.AddsBytes := by
  intro s m v c sum
  refine ⟨?adda, ?addb, ?adca, ?adcb, ?aba⟩
  case adda => exact .of_src8 .a addB rfl (.addWithH false _ _ _) fun _ => length_encSrc8 _ m
  case addb => exact .of_src8 .b addB rfl (.addWithH false _ _ _) fun _ => length_encSrc8 _ m
  case adca => exact .of_src8 .a adcB rfl (.addWithH _ _ _ _) fun _ => length_encSrc8 _ m
  case adcb => exact .of_src8 .b adcB rfl (.addWithH _ _ _ _) fun _ => length_encSrc8 _ m
  case aba => exact .of_update .a (fun x => addB x s.reg.b) rfl (.addWithH false _ _ _) rfl

/-- Settles O22: each addition is ADDFLAGS of words, which has no H. -/
theorem addsWords : Obligations.AddsWords := by
  intro s m v c sum
  have hw : 0 < 16 := by decide
  refine ⟨?addd, ?adde, ?adcd, ?adce, ?ade⟩
  case addd => exact .of_src16 .d addW rfl (.addWith hw false _ _ _) fun _ => length_encSrcD _ _ m
  case adde => exact .of_src16 .e addW rfl (.addWith hw false _ _ _) fun wf => length_encSrcE_of_formsEOrImm8 _ _ wf
  case adcd => exact .of_src16 .d adcW rfl (.addWith hw _ _ _ _) fun _ => length_encSrcD _ _ m
  case adce => exact .of_src16 .e adcW rfl (.addWith hw _ _ _ _) fun wf => length_encSrcE _ _ wf
  case ade => exact .of_update .e (fun x => addW x s.d) rfl (.addWith hw false _ _ _) rfl

/-- Settles O23: each subtraction is SUBFLAGS of bytes, with the borrow-in 0 or C. -/
theorem subtractsBytes : Obligations.SubtractsBytes := by
  intro s m v c dif
  have hw : 0 < 8 := by decide
  refine ⟨?suba, ?subb, ?sbca, ?sbcb, ?sba⟩
  case suba => exact .of_src8 .a sub rfl (.subWith hw false _ _ _) fun _ => length_encSrc8 _ m
  case subb => exact .of_src8 .b sub rfl (.subWith hw false _ _ _) fun _ => length_encSrc8 _ m
  case sbca => exact .of_src8 .a sbc rfl (.subWith hw _ _ _ _) fun _ => length_encSrc8 _ m
  case sbcb => exact .of_src8 .b sbc rfl (.subWith hw _ _ _ _) fun _ => length_encSrc8 _ m
  case sba => exact .of_update .a (fun x => sub x s.reg.b) rfl (.subWith hw false _ _ _) rfl

/-- Settles O24: each subtraction is SUBFLAGS of words. -/
theorem subtractsWords : Obligations.SubtractsWords := by
  intro s m v c dif
  have hw : 0 < 16 := by decide
  refine ⟨?subd, ?sube, ?sbcd, ?sbce, ?sde⟩
  case subd => exact .of_src16 .d sub rfl (.subWith hw false _ _ _) fun _ => length_encSrcD _ _ m
  case sube => exact .of_src16 .e sub rfl (.subWith hw false _ _ _) fun wf => length_encSrcE _ _ wf
  case sbcd => exact .of_src16 .d sbc rfl (.subWith hw _ _ _ _) fun _ => length_encSrcD _ _ m
  case sbce => exact .of_src16 .e sbc rfl (.subWith hw _ _ _ _) fun wf => length_encSrcE _ _ wf
  case sde => exact .of_update .e (fun x => sub x s.d) rfl (.subWith hw false _ _ _) rfl

/-- Settles O25: each compare is SUBFLAGS with the difference discarded. -/
theorem compares : Obligations.Compares := by
  intro s m n v w
  have h8 : 0 < 8 := by decide
  have h16 : 0 < 16 := by decide
  refine ⟨?cmpa, ?cmpb, ?cpd, ?cpe, ?cpx, ?cpy, ?cpz, ?cps, ?cba⟩
  case cmpa => exact .of_src8 (.discard s.reg.a) sub rfl (.sub h8 _ _ _) fun _ => length_encSrc8 _ m
  case cmpb => exact .of_src8 (.discard s.reg.b) sub rfl (.sub h8 _ _ _) fun _ => length_encSrc8 _ m
  case cpd => exact .of_src16 (.discard s.d) sub rfl (.sub h16 _ _ _) fun _ => length_encSrcD _ _ n
  case cpe => exact .of_src16 (.discard s.reg.e) sub rfl (.sub h16 _ _ _) fun wf => length_encSrcE _ _ wf
  case cpx => exact .of_src16 (.discard s.reg.ix) sub rfl (.sub h16 _ _ _) fun wf => length_encSrcIndex _ _ wf
  case cpy => exact .of_src16 (.discard s.reg.iy) sub rfl (.sub h16 _ _ _) fun wf => length_encSrcIndex _ _ wf
  case cpz => exact .of_src16 (.discard s.reg.iz) sub rfl (.sub h16 _ _ _) fun wf => length_encSrcIndex _ _ wf
  case cps => exact .of_src16 (.discard s.reg.sp) sub rfl (.sub h16 _ _ _) fun wf => length_encSrcIndex _ _ wf
  case cba => exact .of_update (.discard s.reg.a) (fun x => sub x s.reg.b) rfl (.sub h8 _ _ _) rfl

end Sys2Proof.Machine

/-! ### Arithmetic and logic: one operand -/

namespace Sys2Proof.Machine

theorem Regs.withD_word (r : Regs) : r.withD (word r.a r.b) = r := by
  simp only [Regs.withD, hi_word, lo_word]

/-- Settles O26: each instruction applies its operation to one accumulator. -/
theorem oneRegister : Obligations.OneRegister := by
  intro s A B D E
  have h8 : 0 < 8 := by decide
  have h16 : 0 < 16 := by decide
  refine ⟨?tsta, ?tstb, ?tstd, ?tste, ?inca, ?incb, ?deca, ?decb, ?clra, ?clrb, ?clrd, ?clre, ?coma, ?comb, ?comd,
    ?come, ?nega, ?negb, ?negd, ?nege⟩
  case tsta => exact .of_update .a tstOp rfl (.tstOp _ _) rfl
  case tstb => exact .of_update .b tstOp rfl (.tstOp _ _) rfl
  case tstd =>
    have kept : Computes .tstd s (s.reg.withD s.d) [11, 10, 9, 8] (TstFlags s.d) :=
      .of_update .d tstOp rfl (.tstOp _ _) rfl
    exact s.reg.withD_word ▸ kept
  case tste => exact .of_update .e tstOp rfl (.tstOp _ _) rfl
  case inca => exact .of_update .a incOp rfl (.incOp h8 _ _) rfl
  case incb => exact .of_update .b incOp rfl (.incOp h8 _ _) rfl
  case deca => exact .of_update .a decOp rfl (.decOp h8 _ _) rfl
  case decb => exact .of_update .b decOp rfl (.decOp h8 _ _) rfl
  case clra => exact .of_update .a clrOp rfl (.clrOp _ _) rfl
  case clrb => exact .of_update .b clrOp rfl (.clrOp _ _) rfl
  case clrd => exact .of_update .d clrOp rfl (.clrOp _ _) rfl
  case clre => exact .of_update .e clrOp rfl (.clrOp _ _) rfl
  case coma => exact .of_update .a comOp rfl (.comOp _ _) rfl
  case comb => exact .of_update .b comOp rfl (.comOp _ _) rfl
  case comd => exact .of_update .d comOp rfl (.comOp _ _) rfl
  case come => exact .of_update .e comOp rfl (.comOp _ _) rfl
  case nega => exact .of_update .a negOp rfl (.negOp h8 _ _) rfl
  case negb => exact .of_update .b negOp rfl (.negOp h8 _ _) rfl
  case negd => exact .of_update .d negOp rfl (.negOp h16 _ _) rfl
  case nege => exact .of_update .e negOp rfl (.negOp h16 _ _) rfl

/-- The bus cycles of a read-modify-write of a byte: one read, then one write at the same address
(41_arithmetic.md R264). -/
theorem State.modify8_spec (s : State) (a : Addr) (v : Byte) (hs : s.executing = true) :
    BusKept s ((s.read8 a).2.write8 a v) ∧ StoresByte s ((s.read8 a).2.write8 a v) a v :=
  have ⟨read, mem, _⟩ := s.read8_spec a hs
  have ⟨kept, stored⟩ := (s.read8 a).2.write8_spec a v (read.executing hs)
  ⟨read.trans kept, stored.after_reads read mem⟩

/-- The bus cycles of a read-modify-write of a word. -/
theorem State.modify16_spec (s : State) (a : Addr) (v : Word) (hs : s.executing = true) :
    BusKept s ((s.read16 a).2.write16 a v) ∧ StoresWord s ((s.read16 a).2.write16 a v) a v :=
  have ⟨read, mem, _⟩ := s.read16_spec a hs
  have ⟨kept, stored⟩ := (s.read16 a).2.write16_spec a v (read.executing hs)
  ⟨read.trans kept, stored.after_reads read mem⟩

section
variable {i : Instr} {s : State} {m : Mem} {n : Nat} {bits : List Nat} {flags : Word → Prop}

/-- The operation takes the CCR after its read, which is the CCR before it. -/
theorem State.rmw8_eq (op : UnOp 8) (hs : s.executing = true) :
    let r := op (s.byteAt (s.ea m)) s.reg.ccr
    s.rmw8 op m n =
      (((s.read8 (s.ea m)).2.write8 (s.ea m) r.1).mapReg fun q => { q with ccr := r.2 }).advance n := by
  obtain ⟨kept, -⟩ := s.read8_spec (s.ea m) hs
  simp only [State.rmw8, kept.reg]
  rfl

theorem State.rmw16_eq (op : UnOp 16) (hs : s.executing = true) :
    let r := op (s.wordAt (s.ea m)) s.reg.ccr
    s.rmw16 op m n =
      (((s.read16 (s.ea m)).2.write16 (s.ea m) r.1).mapReg fun q => { q with ccr := r.2 }).advance n := by
  obtain ⟨kept, -⟩ := s.read16_spec (s.ea m) hs
  simp only [State.rmw16, kept.reg]
  rfl

/-- An operation on a byte of memory. -/
theorem WritesByte.of_rmw8 {v : Byte} (op : UnOp 8) (runs : exec i s = .next (s.rmw8 op m n))
    (res : OpResult bits flags v s.reg.ccr (op (s.byteAt (s.ea m)) s.reg.ccr))
    (len : i.wellFormed = true → i.length = n) : WritesByte i s s.reg bits flags (s.ea m) v := fun wf hs =>
  have runs := runs.trans (congrArg Host.Outcome.next (State.rmw8_eq op hs))
  WritesByte.of_mapReg (f := fun q => { q with ccr := (op (s.byteAt (s.ea m)) s.reg.ccr).2 })
    (s.modify8_spec (s.ea m) v) (res.value ▸ runs) rfl res.ccr len wf hs

/-- An operation on a word of memory. -/
theorem WritesWord.of_rmw16 {v : Word} (op : UnOp 16) (runs : exec i s = .next (s.rmw16 op m n))
    (res : OpResult bits flags v s.reg.ccr (op (s.wordAt (s.ea m)) s.reg.ccr))
    (len : i.wellFormed = true → i.length = n) : WritesWord i s s.reg bits flags (s.ea m) v := fun wf hs =>
  have runs := runs.trans (congrArg Host.Outcome.next (State.rmw16_eq op hs))
  WritesWord.of_mapReg (f := fun q => { q with ccr := (op (s.wordAt (s.ea m)) s.reg.ccr).2 })
    (s.modify16_spec (s.ea m) v) (res.value ▸ runs) rfl res.ccr len wf hs

end

theorem length_encMemW (op : Byte) {m : Mem} (h : m.ind16OrExt = true) : 2 * (encMemW op m).length = memLen m := by
  cases m with
  | ind8 i ff => cases h
  | ind16 i gggg => rfl
  | ext hhll => rfl
  | eoff i => cases h

theorem length_encMemW_append (op : Byte) (mask : Word) {m : Mem} (h : m.ind16OrExt = true) :
    2 * (encMemW op m ++ [mask]).length = 6 := by
  cases m with
  | ind8 i ff => cases h
  | ind16 i gggg => rfl
  | ext hhll => rfl
  | eoff i => cases h

theorem length_encBit8 (op mask : Byte) {m : Mem} (h : m.indexedOrExt = true) :
    2 * (encBit8 op mask m).length = 4 := by
  cases m with
  | ind8 i ff => rfl
  | ind16 i gggg => rfl
  | ext hhll => rfl
  | eoff i => cases h

/-- Settles O27: a test only reads, a clear only writes, the others read and write at the same address. -/
theorem oneMemoryOperand : Obligations.OneMemoryOperand := by
  intro s m a x y
  have h8 : 0 < 8 := by decide
  have h16 : 0 < 16 := by decide
  refine ⟨?tst, ?tstw, ?inc, ?incw, ?dec, ?decw, ?clr, ?clrw, ?com, ?comw, ?neg, ?negw⟩
  case tst => exact .of_update (.discard x) tstOp (s.src8_spec (.mem m)) rfl (.tstOp _ _) fun _ => length_encMem _ m
  case tstw =>
    exact .of_update (.discard y) tstOp (s.src16_spec (.mem m)) rfl (.tstOp _ _) fun wf => length_encMemW _ wf
  case inc => exact .of_rmw8 incOp rfl (.incOp h8 _ _) fun _ => length_encMem _ m
  case incw => exact .of_rmw16 incOp rfl (.incOp h16 _ _) fun wf => length_encMemW _ wf
  case dec => exact .of_rmw8 decOp rfl (.decOp h8 _ _) fun _ => length_encMem _ m
  case decw => exact .of_rmw16 decOp rfl (.decOp h16 _ _) fun wf => length_encMemW _ wf
  case clr =>
    exact .of_mapReg (f := (Place.discard (0 : Byte)).update clrOp) (s.write8_spec a 0) rfl rfl
      (OpResult.clrOp 0 _).ccr fun _ => length_encMem _ m
  case clrw =>
    exact .of_mapReg (f := (Place.discard (0 : Word)).update clrOp) (s.write16_spec a 0) rfl rfl
      (OpResult.clrOp 0 _).ccr fun wf => length_encMemW _ wf
  case com => exact .of_rmw8 comOp rfl (.comOp _ _) fun _ => length_encMem _ m
  case comw => exact .of_rmw16 comOp rfl (.comOp _ _) fun wf => length_encMemW _ wf
  case neg => exact .of_rmw8 negOp rfl (.negOp h8 _ _) fun _ => length_encMem _ m
  case negw => exact .of_rmw16 negOp rfl (.negOp h16 _ _) fun wf => length_encMemW _ wf

/-- Settles O33: the operations on a register and an operand, then the bit tests, then the masks on memory. -/
theorem logicOperations : Obligations.LogicOperations := by
  refine ⟨fun s m => ⟨?anda, ?andb, ?oraa, ?orab, ?eora, ?eorb, ?bita, ?bitb⟩,
    fun s m => ⟨?andd, ?ande, ?ord, ?ore, ?eord, ?eore⟩, fun s m mm mmmm => ⟨?bclr, ?bset, ?bclrw, ?bsetw⟩⟩
  case anda => exact .of_src8 .a andOp rfl (.andOp _ _ _) fun _ => length_encSrc8 _ m
  case andb => exact .of_src8 .b andOp rfl (.andOp _ _ _) fun _ => length_encSrc8 _ m
  case oraa => exact .of_src8 .a orOp rfl (.orOp _ _ _) fun _ => length_encSrc8 _ m
  case orab => exact .of_src8 .b orOp rfl (.orOp _ _ _) fun _ => length_encSrc8 _ m
  case eora => exact .of_src8 .a eorOp rfl (.eorOp _ _ _) fun _ => length_encSrc8 _ m
  case eorb => exact .of_src8 .b eorOp rfl (.eorOp _ _ _) fun _ => length_encSrc8 _ m
  case bita => exact .of_src8 (.discard s.reg.a) andOp rfl (.andOp _ _ _) fun _ => length_encSrc8 _ m
  case bitb => exact .of_src8 (.discard s.reg.b) andOp rfl (.andOp _ _ _) fun _ => length_encSrc8 _ m
  case andd => exact .of_src16 .d andOp rfl (.andOp _ _ _) fun _ => length_encSrcD _ _ m
  case ande => exact .of_src16 .e andOp rfl (.andOp _ _ _) fun wf => length_encSrcE _ _ wf
  case ord => exact .of_src16 .d orOp rfl (.orOp _ _ _) fun _ => length_encSrcD _ _ m
  case ore => exact .of_src16 .e orOp rfl (.orOp _ _ _) fun wf => length_encSrcE _ _ wf
  case eord => exact .of_src16 .d eorOp rfl (.eorOp _ _ _) fun _ => length_encSrcD _ _ m
  case eore => exact .of_src16 .e eorOp rfl (.eorOp _ _ _) fun wf => length_encSrcE _ _ wf
  case bclr => exact .of_rmw8 (clearBits mm) rfl (.clearBits _ _ _) fun wf => length_encBit8 _ _ wf
  case bset => exact .of_rmw8 (setBits mm) rfl (.setBits _ _ _) fun wf => length_encBit8 _ _ wf
  case bclrw => exact .of_rmw16 (clearBits mmmm) rfl (.clearBits _ _ _) fun wf => length_encMemW_append _ _ wf
  case bsetw => exact .of_rmw16 (setBits mmmm) rfl (.setBits _ _ _) fun wf => length_encMemW_append _ _ wf

end Sys2Proof.Machine

/-! ### DAA and SXT (41_arithmetic.md R290, R291) -/

namespace Sys2Proof.Machine

/-- DAA completes with the adjusted A and the new C; V is free (log entry 13). -/
theorem computes_daa (s : State) :
    let r := daaAdjust s.reg.a (flagH s.reg.ccr) (flagC s.reg.ccr)
    Computes .daa s { s.reg with a := r.1 } [11, 10, 9, 8] fun f => NZOf r.1 f ∧ flagC f = r.2 := by
  intro r wf
  have kept : BusKept s s.freshBit.2 := ⟨rfl, rfl, rfl, rfl, rfl⟩
  have ccr := CcrUpdate.setNZVC r.1 s.freshBit.1 r.2 s.reg.ccr
  have ⟨become, advanced, keeps, nz, _, carry⟩ :=
    kept.registers_after (i := .daa) (r := { s.reg with a := r.1 }) (n := 2)
      (f := fun q => { q with a := r.1, ccr := setNZVC r.1 s.freshBit.1 r.2 q.ccr }) rfl ccr rfl
  exact ⟨_, rfl, become, advanced, keeps, ⟨nz, carry⟩, rfl, rfl, DataKept.of_mem rfl, rfl, rfl⟩

/-- The correction procedure, by its two conditions: whether $06 is added and whether $60 is (41_arithmetic.md R290). -/
theorem daaAdjust_eq {a : Byte} {h c low high : Bool} (hlow : (h = true ∨ 9 < a.toNat % 16) ↔ low = true)
    (hhigh : (c = true ∨ 9 < a.toNat / 16 ∨ a.toNat / 16 = 9 ∧ 9 < a.toNat % 16) ↔ high = true) :
    daaAdjust a h c = (a + ((if low then 0x06 else 0) + if high then 0x60 else 0), high) := by
  have elow : (h || decide (9 < a.toNat % 16)) = low := by
    rw [Bool.eq_iff_iff, ← hlow]
    simp
  have ehigh :
      (c || decide (9 < a.toNat / 16) || (decide (a.toNat / 16 = 9) && decide (9 < a.toNat % 16))) = high := by
    rw [Bool.eq_iff_iff, ← hhigh]
    simp [or_assoc]
  rw [daaAdjust, elow, ehigh, BitVec.add_assoc]

/-- DAA in a row of its table: `low` says that $06 is added, `high` that $60 is and C is set. -/
theorem computes_daa_row {s : State} {h c : Bool} (low high : Bool) (hC : flagC s.reg.ccr = c)
    (hH : flagH s.reg.ccr = h) (hlow : (h = true ∨ 9 < s.reg.a.toNat % 16) ↔ low = true)
    (hhigh : (c = true ∨ 9 < s.reg.a.toNat / 16 ∨ s.reg.a.toNat / 16 = 9 ∧ 9 < s.reg.a.toNat % 16) ↔ high = true) :
    let v := s.reg.a + ((if low then 0x06 else 0) + if high then 0x60 else 0)
    Computes .daa s { s.reg with a := v } [11, 10, 9, 8] fun f => NZOf v f ∧ flagC f = high := by
  have done := computes_daa s
  rwa [hC, hH, daaAdjust_eq hlow hhigh] at done

/-- SXT as an operation on A: the sign of B in every bit (41_arithmetic.md R291). -/
def signOp (b : Byte) : UnOp 8 := fun _ c =>
  let r : Byte := if b.msb then 0xFF else 0x00
  (r, setNZ r c)

/-- Settles O28: each row of the table meets the conditions of its correction. -/
theorem decimalAdjustAndSignExtend : Obligations.DecimalAdjustAndSignExtend := by
  refine fun s => ⟨?table, ⟨(daaAdjust s.reg.a (flagH s.reg.ccr) (flagC s.reg.ccr)).1, ?daa⟩, ?sxt⟩
  case table =>
    simp only [List.forall_mem_cons, List.not_mem_nil, false_implies, implies_true, and_true]
    refine ⟨?none, ?low, ?lowH, ?high, ?both, ?bothH, ?highC, ?bothC, ?bothHC⟩ <;>
      intro hC from_hi to_hi hH from_lo to_lo
    case none => exact computes_daa_row false false hC hH (by grind) (by grind)
    case low => exact computes_daa_row true false hC hH (by grind) (by grind)
    case lowH => exact computes_daa_row true false hC hH (by grind) (by grind)
    case high => exact computes_daa_row false true hC hH (by grind) (by grind)
    case both => exact computes_daa_row true true hC hH (by grind) (by grind)
    case bothH => exact computes_daa_row true true hC hH (by grind) (by grind)
    case highC => exact computes_daa_row false true hC hH (by grind) (by grind)
    case bothC => exact computes_daa_row true true hC hH (by grind) (by grind)
    case bothHC => exact computes_daa_row true true hC hH (by grind) (by grind)
  case daa =>
    intro wf
    obtain ⟨t, runs, become, advanced, keeps, ⟨nz, -⟩, rest⟩ := computes_daa s wf
    exact ⟨t, runs, become, advanced, keeps, nz, rest⟩
  case sxt =>
    rw [show s.reg.b.getLsbD 7 = s.reg.b.msb from (BitVec.msb_eq_getLsbD_last _).symm]
    exact .of_update .a (signOp s.reg.b) rfl ⟨rfl, .setNZ _ _⟩ rfl

end Sys2Proof.Machine

/-! ### Multiplication and division: the numbers (42_mul_div.md R350) -/

namespace Sys2Proof.Machine

theorem long_hiWord_loWord (p : BitVec 32) : long (hiWord p) (loWord p) = p := by
  rw [long, hiWord, loWord, BitVec.extractLsb'_append_extractLsb'_eq_extractLsb' (by decide)]
  exact BitVec.extractLsb'_eq_self

theorem getLsbD_loWord {k : Nat} (hk : k < 16) (p : BitVec 32) : (loWord p).getLsbD k = p.getLsbD k := by
  simp [loWord, hk]

/-- An unsigned product has no more than the bits of both factors together. -/
theorem toNat_ofNat_product {w : Nat} (x y : BitVec w) :
    (BitVec.ofNat (w + w) (x.toNat * y.toNat)).toNat = x.toNat * y.toNat := by
  rw [BitVec.toNat_ofNat, Nat.pow_add, Nat.mod_eq_of_lt (Nat.mul_lt_mul'' x.isLt y.isLt)]

theorem natAbs_toInt_le (x : Word) : x.toInt.natAbs ≤ 2 ^ 15 := by
  have low := x.le_toInt
  have high := x.toInt_lt
  omega

theorem natAbs_toInt_le_of_ne {x : Word} (h : x ≠ 0x8000) : x.toInt.natAbs ≤ 2 ^ 15 - 1 := by
  have low := x.le_toInt
  have high := x.toInt_lt
  have ne : x.toInt ≠ (0x8000#16).toInt := BitVec.toInt_ne.mpr h
  have least : (0x8000#16).toInt = -32768 := by decide
  omega

theorem toInt_ofInt_product (x y : Word) :
    (BitVec.ofInt 32 (x.toInt * y.toInt)).toInt = x.toInt * y.toInt := by
  have bound : (x.toInt * y.toInt).natAbs ≤ 2 ^ 15 * 2 ^ 15 := by
    rw [Int.natAbs_mul]
    exact Nat.mul_le_mul (natAbs_toInt_le x) (natAbs_toInt_le y)
  exact BitVec.toInt_ofInt_eq_self (by decide) (by omega) (by omega)

theorem ofInt_shiftLeft_one (n : Int) : BitVec.ofInt 32 n <<< 1 = BitVec.ofInt 32 (2 * n) := by
  have two : BitVec.twoPow 32 1 = BitVec.ofInt 32 2 := by decide
  rw [BitVec.shiftLeft_eq_mul_twoPow, BitVec.mul_comm, BitVec.ofInt_mul, two]

/-- The doubled product fits 32 bits unless both factors are the fraction -1 (42_mul_div.md R357). -/
theorem toInt_fractional_product {x y : Word} (h : ¬(x = 0x8000 ∧ y = 0x8000)) :
    (BitVec.ofInt 32 (x.toInt * y.toInt) <<< 1).toInt = 2 * (x.toInt * y.toInt) := by
  have bound : (x.toInt * y.toInt).natAbs ≤ 2 ^ 15 * (2 ^ 15 - 1) := by
    rw [Int.natAbs_mul]
    rcases Decidable.not_and_iff_not_or_not.mp h with hx | hy
    · rw [Nat.mul_comm]
      exact Nat.mul_le_mul (natAbs_toInt_le y) (natAbs_toInt_le_of_ne hx)
    · exact Nat.mul_le_mul (natAbs_toInt_le x) (natAbs_toInt_le_of_ne hy)
  rw [ofInt_shiftLeft_one]
  exact BitVec.toInt_ofInt_eq_self (by decide) (by omega) (by omega)

/-- The quotient truncated toward zero and its remainder, by the sign of the remainder. -/
theorem tdiv_tmod_eq {n d q r : Int} (hd : d ≠ 0) (h : n = q * d + r) (small : r.natAbs < d.natAbs)
    (nonneg : 0 ≤ n → 0 ≤ r) (nonpos : n ≤ 0 → r ≤ 0) : n.tdiv d = q ∧ n.tmod d = r := by
  have sum : r + d * q = n := by rw [h, Int.add_comm, Int.mul_comm]
  rcases Int.le_total 0 n with hn | hn
  · exact (Int.tdiv_tmod_unique hn hd).mpr ⟨sum, nonneg hn, by omega⟩
  · exact (Int.tdiv_tmod_unique' hn hd).mpr ⟨sum, by omega, nonpos hn⟩

/-- Quotient and remainder of unsigned numbers, where the quotient fits. -/
theorem quotient_remainder {n d : Nat} (hd : 0 < d) (fits : n / d < 2 ^ 16) (below : d < 2 ^ 16) :
    n = (BitVec.ofNat 16 (n / d)).toNat * d + (BitVec.ofNat 16 (n % d)).toNat ∧
      (BitVec.ofNat 16 (n % d)).toNat < d ∧ (BitVec.ofNat 16 (n % d)).toNat = n % d := by
  have rest : n % d < d := Nat.mod_lt n hd
  rw [BitVec.toNat_ofNat, BitVec.toNat_ofNat, Nat.mod_eq_of_lt fits, Nat.mod_eq_of_lt (Nat.lt_trans rest below)]
  exact ⟨(Nat.div_add_mod' n d).symm, rest, rfl⟩

end Sys2Proof.Machine

/-! ### Multiplication and division: the flags -/

namespace Sys2Proof.Machine

theorem withPK_withCcrBit {n : Nat} (h4 : 4 ≤ n) (h16 : n < 16) (p : Ext) (v : Bool) (c : Word) :
    withPK p (withCcrBit n v c) = withCcrBit n v (withPK p c) :=
  ccr_ext fun k _ => by
    simp only [getLsbD_withPK, getLsbD_withCcrBit n h16]
    by_cases pk : k < 4
    · rw [if_pos pk, if_pos pk, if_neg (by omega)]
    · rw [if_neg pk, if_neg pk]

/-- One bit more replaced: `flags` must follow from what was claimed before. -/
theorem CcrUpdate.withCcrBit {bits : List Nat} {P flags : Word → Prop} {c d : Word} {n : Nat} {v : Bool}
    (u : CcrUpdate bits P c d) (h4 : 4 ≤ n) (h16 : n < 16) (h : ∀ f, P f → flags (withCcrBit n v f)) :
    CcrUpdate (n :: bits) flags c (withCcrBit n v d) where
  pk := by rw [fieldPK_withCcrBit n h4 h16, u.pk]
  kept k hk4 hk16 hk := by
    obtain ⟨ne, hk⟩ := not_or.mp (mt List.mem_cons.mpr hk)
    rw [getLsbD_withCcrBit n h16, if_neg ne, u.kept k hk4 hk16 hk]
  flags p := by
    rw [withPK_withCcrBit h4 h16]
    exact h _ (u.flags p)

section
variable {bits bits' : List Nat} {P flags : Word → Prop} {c d : Word} {v : Bool}

theorem CcrUpdate.withN (u : CcrUpdate bits P c d) (h : ∀ f, P f → flags (withN v f)) :
    CcrUpdate (11 :: bits) flags c (withN v d) := u.withCcrBit (by decide) (by decide) h

theorem CcrUpdate.withZ (u : CcrUpdate bits P c d) (h : ∀ f, P f → flags (withZ v f)) :
    CcrUpdate (10 :: bits) flags c (withZ v d) := u.withCcrBit (by decide) (by decide) h

theorem CcrUpdate.withV (u : CcrUpdate bits P c d) (h : ∀ f, P f → flags (withV v f)) :
    CcrUpdate (9 :: bits) flags c (withV v d) := u.withCcrBit (by decide) (by decide) h

theorem CcrUpdate.withC (u : CcrUpdate bits P c d) (h : ∀ f, P f → flags (withC v f)) :
    CcrUpdate (8 :: bits) flags c (withC v d) := u.withCcrBit (by decide) (by decide) h

/-- A longer list of bits claims less. -/
theorem CcrUpdate.of_subset (u : CcrUpdate bits P c d) (h : bits ⊆ bits') : CcrUpdate bits' P c d :=
  ⟨u.pk, fun k h4 h16 hk => u.kept k h4 h16 (mt (@h k) hk), u.flags⟩

end

/-- N and Z of a product, C its bit 15 (42_mul_div.md R354, R355). -/
theorem CcrUpdate.setProduct (p : BitVec 32) (c : Word) :
    CcrUpdate [11, 10, 8] (fun f => NZOf p f ∧ flagC f = p.getLsbD 15) c (setProduct p c) :=
  ((CcrUpdate.setNZ p c).withC fun f nz => by simpa [NZOf] using nz).of_subset (by simp)

/-- V of a fractional product as well (42_mul_div.md R357). -/
theorem CcrUpdate.withV_setProduct (p : BitVec 32) (v : Bool) (c : Word) :
    CcrUpdate [11, 10, 9, 8] (fun f => NZOf p f ∧ flagC f = p.getLsbD 15 ∧ flagV f = v) c
      (Machine.withV v (Machine.setProduct p c)) :=
  ((CcrUpdate.setProduct p c).withV fun f nzc => by simpa [NZOf, and_assoc] using nzc).of_subset (by simp)

/-- N, Z, V and C of a quotient of EDIV or EDIVS that fits (42_mul_div.md R352 (c), R353 (c)). -/
theorem CcrUpdate.setQuotient (q : Word) (half : Bool) (c : Word) :
    CcrUpdate [11, 10, 9, 8] (fun f => NZ0Of q f ∧ flagC f = half) c (Machine.setNZVC q false half c) :=
  (CcrUpdate.setNZVC q false half c).imp fun _ ⟨nz, v, carry⟩ => ⟨⟨nz, v⟩, carry⟩

/-- V set; N, Z and C are whatever was drawn (42_mul_div.md R352 (b), R353 (b)). -/
theorem CcrUpdate.overflow (n z carry : Bool) (c : Word) :
    CcrUpdate [11, 10, 9, 8] (fun f => flagV f = true) c
      (Machine.withC carry (Machine.withV true (Machine.withZ z (Machine.withN n c)))) :=
  ((((CcrUpdate.unchanged c).withN (flags := anyFlags) fun _ _ => trivial).withZ (flags := anyFlags)
    fun _ _ => trivial).withV fun f _ => flagV_withV true f).withC (fun f v => (flagV_withC carry f).trans v)
    |>.of_subset (by simp)

/-- Z, V and C of IDIV and FDIV; N stays (42_mul_div.md R356, R358). -/
theorem CcrUpdate.shortQuotient (z v carry : Bool) (c : Word) :
    CcrUpdate [10, 9, 8] (fun f => flagZ f = z ∧ flagV f = v ∧ flagC f = carry) c
      (Machine.withC carry (Machine.withV v (Machine.withZ z c))) :=
  (((CcrUpdate.unchanged c).withZ fun f _ => flagZ_withZ z f).withV
    (flags := fun f => flagZ f = z ∧ flagV f = v) fun f hz => by simpa using hz).withC
    (fun f hzv => by simpa using hzv) |>.of_subset (by simp)

end Sys2Proof.Machine

/-! ### Multiplication (42_mul_div.md R354, R355, R357, R359) -/

namespace Sys2Proof.Machine

/-- A multiplication into E : D takes its product from the registers and its flags from the product. -/
theorem Computes.of_product {i : Instr} {s : State} {p : BitVec 32} {bits : List Nat} {flags : Word → Prop}
    (u : Word → Word)
    (runs : exec i s =
      .next ((s.mapReg fun r => { r.withED (hiWord p) (loWord p) with ccr := u r.ccr }).advance 2))
    (ccr : CcrUpdate bits flags s.reg.ccr (u s.reg.ccr)) (len : i.length = 2) :
    Computes i s (s.reg.withED (hiWord p) (loWord p)) bits flags :=
  .of_mapReg runs rfl ccr fun _ => len

/-- Settles O29: each product fits the register pair that takes it, but that of FMULS when both factors are -1. -/
theorem multiplications : Obligations.Multiplications := by
  intro s
  let product := BitVec.ofNat 16 (s.reg.a.toNat * s.reg.b.toNat)
  let unsigned := BitVec.ofNat 32 (s.reg.e.toNat * s.d.toNat)
  let signed := BitVec.ofInt 32 (s.reg.e.toInt * s.d.toInt)
  let fraction := signed <<< 1
  refine ⟨⟨product, toNat_ofNat_product s.reg.a s.reg.b, ?mul⟩, ⟨hiWord unsigned, loWord unsigned, ?emulValue, ?emul⟩,
    ⟨hiWord signed, loWord signed, ?emulsValue, ?emuls⟩,
    ⟨hiWord fraction, loWord fraction, ?fmulsValue, ?fmulsLeast, ?fmuls⟩⟩
  case mul =>
    exact .of_mapReg (f := fun r => { r.withD product with ccr := withC (product.getLsbD 7) r.ccr }) rfl rfl
      ((CcrUpdate.unchanged _).withC fun f _ => flagC_withC _ f) fun _ => rfl
  all_goals simp only [long_hiWord_loWord, getLsbD_loWord (k := 15) (by decide)]
  case emulValue => exact toNat_ofNat_product s.reg.e s.d
  case emul => exact .of_product (setProduct unsigned) rfl (.setProduct _ _) rfl
  case emulsValue => exact toInt_ofInt_product s.reg.e s.d
  case emuls => exact .of_product (setProduct signed) rfl (.setProduct _ _) rfl
  case fmulsValue => exact toInt_fractional_product
  case fmulsLeast =>
    rintro ⟨he, hd⟩
    simp only [fraction, signed, he, hd]
    decide
  case fmuls =>
    have square : (s.reg.e == 0x8000#16 && s.d == 0x8000#16) = decide (s.reg.e = 0x8000 ∧ s.d = 0x8000) :=
      (Bool.decide_and _ _).symm
    rw [← square]
    exact .of_product (fun c => withV (s.reg.e == 0x8000#16 && s.d == 0x8000#16) (setProduct fraction c)) rfl
      (.withV_setProduct _ _ _) rfl

end Sys2Proof.Machine

/-! ### Division (42_mul_div.md R352, R353, R356, R358) -/

namespace Sys2Proof.Machine

/-- The registers after a division: IX the quotient, D the remainder, the CCR updated by `u`. -/
def Regs.divided (q r : Word) (u : Word → Word) (g : Regs) : Regs := { g.withD r with ix := q, ccr := u g.ccr }

section
variable {i : Instr} {s : State} {q r : Word} {bits : List Nat} {flags : Word → Prop}

/-- A division that completes; what it takes of free values moves their counter on to `k`. -/
theorem Computes.of_division (k : Nat) (u : Word → Word)
    (runs : exec i s = .next ((({ s with free := k } : State).mapReg (.divided q r u)).advance 2))
    (ccr : CcrUpdate bits flags s.reg.ccr (u s.reg.ccr)) (len : i.length = 2) :
    Computes i s { s.reg.withD r with ix := q } bits flags := fun _ =>
  have kept : BusKept s { s with free := k } := ⟨rfl, rfl, rfl, rfl, rfl⟩
  have ⟨become, advanced, keeps, holds⟩ := kept.registers_after rfl ccr len
  ⟨_, runs, become, advanced, keeps, holds, rfl, rfl, DataKept.of_mem rfl, rfl, rfl⟩

/-- A quotient of EDIV or EDIVS that fits. -/
theorem Computes.of_setQuotient {half : Bool} (runs : exec i s = .next ((s.setQuotient q r half).advance 2))
    (len : i.length = 2) :
    Computes i s { s.reg.withD r with ix := q } [11, 10, 9, 8] (fun f => NZ0Of q f ∧ flagC f = half) :=
  .of_division s.free (setNZVC q false half) runs (.setQuotient q half _) len

/-- A quotient of EDIV or EDIVS that does not fit: three flags and both registers are free. -/
theorem computes_of_divideOverflow (runs : exec i s = .next (s.divideOverflow.advance 2)) (len : i.length = 2) :
    ∃ x d : Word, Computes i s { s.reg.withD d with ix := x } [11, 10, 9, 8] (fun f => flagV f = true) :=
  ⟨_, _, .of_division (s.free + 5)
    (fun c => withC (Config.freeBit (s.free + 2)) (withV true (withZ (Config.freeBit (s.free + 1))
      (withN (Config.freeBit s.free) c)))) runs (.overflow _ _ _ _) len⟩

/-- A quotient of IDIV or FDIV that exists. -/
theorem Computes.of_shortQuotient
    (runs : exec i s = .next ((((s.setIX q).setD r).setCcr
      (withC false (withV false (withZ (q == 0) s.reg.ccr)))).advance 2)) (len : i.length = 2) :
    Computes i s { s.reg.withD r with ix := q } [10, 9, 8]
      (fun f => flagZ f = decide (q = 0) ∧ flagV f = false ∧ flagC f = false) :=
  .of_division s.free (fun c => withC false (withV false (withZ (q == 0) c))) runs (.shortQuotient _ _ _ _) len

/-- A quotient of IDIV or FDIV that does not exist: D is free. -/
theorem computes_of_noQuotient {v carry : Bool}
    (runs : exec i s = .next ((((s.freshWord.2.setIX 0xFFFF).setD s.freshWord.1).setCcr
      (withC carry (withV v (withZ false s.reg.ccr)))).advance 2)) (len : i.length = 2) :
    ∃ r : Word, Computes i s { s.reg.withD r with ix := 0xFFFF } [10, 9, 8]
      (fun f => flagZ f = false ∧ flagV f = v ∧ flagC f = carry) :=
  ⟨_, .of_division (s.free + 1) (fun c => withC carry (withV v (withZ false c))) runs (.shortQuotient _ _ _ _) len⟩

end

/-! What EDIV and EDIVS answer for a divisor that is not zero, by whether the quotient fits. -/

section
variable {s : State}

theorem exec_ediv_fits (hd : s.reg.ix.toNat ≠ 0) (fits : s.ed.toNat / s.reg.ix.toNat < 2 ^ 16) :
    let n := s.ed.toNat
    let d := s.reg.ix.toNat
    exec .ediv s = .next
      ((s.setQuotient (BitVec.ofNat 16 (n / d)) (BitVec.ofNat 16 (n % d)) (decide (d ≤ 2 * (n % d)))).advance 2) :=
  (if_neg hd).trans (if_neg (Nat.not_le.mpr fits))

theorem exec_ediv_overflow (hd : s.reg.ix.toNat ≠ 0) (large : 2 ^ 16 ≤ s.ed.toNat / s.reg.ix.toNat) :
    exec .ediv s = .next (s.divideOverflow.advance 2) :=
  (if_neg hd).trans (if_pos large)

variable {q r : Int}

theorem exec_edivs_fits (hd : s.reg.ix.toInt ≠ 0) (hq : s.ed.toInt.tdiv s.reg.ix.toInt = q)
    (hr : s.ed.toInt.tmod s.reg.ix.toInt = r) (fits : ¬(q < -32768 ∨ 32767 < q)) :
    exec .edivs s = .next ((s.setQuotient (BitVec.ofInt 16 q) (BitVec.ofInt 16 r)
      (decide (s.reg.ix.toInt.natAbs ≤ 2 * r.natAbs))).advance 2) := by
  subst hq hr
  exact (if_neg hd).trans (if_neg fits)

theorem exec_edivs_overflow (hd : s.reg.ix.toInt ≠ 0) (hq : s.ed.toInt.tdiv s.reg.ix.toInt = q)
    (large : q < -32768 ∨ 32767 < q) : exec .edivs s = .next (s.divideOverflow.advance 2) := by
  subst hq
  exact (if_neg hd).trans (if_pos large)

end

/-- Settles O30: the quotient and remainder that each hypothesis describes are those that the model computes. -/
theorem extendedDivisions : Obligations.ExtendedDivisions := by
  intro s
  refine ⟨?ediv, ?edivs, ?edivOverflow, ?edivsOverflow⟩
  case ediv =>
    intro hix below
    have hd : s.reg.ix.toNat ≠ 0 := BitVec.toNat_ne_iff_ne.mpr hix
    have pos := Nat.pos_of_ne_zero hd
    have fits := (Nat.div_lt_iff_lt_mul pos).mpr below
    obtain ⟨sum, rest, value⟩ := quotient_remainder pos fits s.reg.ix.isLt
    refine ⟨_, _, sum, rest, ?_⟩
    rw [value]
    exact .of_setQuotient (exec_ediv_fits hd fits) rfl
  case edivs =>
    intro q r hix sum small nonneg nonpos low high
    have hd : s.reg.ix.toInt ≠ 0 := BitVec.toInt_ne.mpr hix
    obtain ⟨hq, hr⟩ := tdiv_tmod_eq hd sum small nonneg nonpos
    exact .of_setQuotient (exec_edivs_fits hd hq hr (by omega)) rfl
  case edivOverflow =>
    intro hix large
    have hd : s.reg.ix.toNat ≠ 0 := BitVec.toNat_ne_iff_ne.mpr hix
    have large := (Nat.le_div_iff_mul_le (Nat.pos_of_ne_zero hd)).mpr large
    exact computes_of_divideOverflow (exec_ediv_overflow hd large) rfl
  case edivsOverflow =>
    intro q r hix sum small nonneg nonpos large
    have hd : s.reg.ix.toInt ≠ 0 := BitVec.toInt_ne.mpr hix
    obtain ⟨hq, -⟩ := tdiv_tmod_eq hd sum small nonneg nonpos
    exact computes_of_divideOverflow (exec_edivs_overflow hd hq large) rfl

/-- Settles O32: IDIV divides D, FDIV divides D moved up by 16 bits. -/
theorem shortDivisions : Obligations.ShortDivisions := by
  intro s n d
  have below : d < 2 ^ 16 := s.reg.ix.isLt
  refine ⟨?idiv, ?idivZero, ?fdiv, ?fdivOverflow⟩
  case idiv =>
    intro hd
    have fits : n / d < 2 ^ 16 := Nat.lt_of_le_of_lt (Nat.div_le_self n d) s.d.isLt
    obtain ⟨sum, rest, -⟩ := quotient_remainder (Nat.pos_of_ne_zero hd) fits below
    exact ⟨_, _, sum, rest, .of_shortQuotient (if_neg hd) rfl⟩
  case idivZero =>
    intro hd
    exact computes_of_noQuotient (if_pos hd) rfl
  case fdiv =>
    intro hlt
    have pos : 0 < d := Nat.zero_lt_of_lt hlt
    have fits : n * 2 ^ 16 / d < 2 ^ 16 := (Nat.div_lt_iff_lt_mul pos).mpr (by omega)
    obtain ⟨sum, rest, -⟩ := quotient_remainder pos fits below
    exact ⟨_, _, sum, rest, .of_shortQuotient (if_neg (by omega)) rfl⟩
  case fdivOverflow =>
    intro hle
    exact computes_of_noQuotient (if_pos (.inr hle)) rfl

end Sys2Proof.Machine

/-! ### Division by zero (42_mul_div.md R352 (a), 60_exceptions.md R771) -/

namespace Sys2Proof.Machine

/-- A synchronous exception with stack and vector in RAM (60_exceptions.md R742 (b), R743). -/
theorem State.takeSynchronous_spec {s : State} {n : Byte} (ready : s.exceptionReady n = true) :
    ExceptionTaken s (s.takeSynchronous n) (s.ia + 8) n [] ∧ ControlHandler s n s.ctl (s.takeSynchronous n) := by
  have stacked : s.ia + 8 = s.pkpc + 2 := by
    rw [State.ia]
    bv_omega
  obtain ⟨frame, target, regs, mac, out, ctl⟩ := s.takeException_spec (s.pkpc + 2) n none ready
  rw [stacked, State.takeSynchronous]
  refine ⟨⟨frame, target, by rw [ctl], ?become, ?keeps, mac, out⟩, ?control⟩
  case become =>
    rw [RegsBecome, regs]
    rfl
  case keeps =>
    intro k h4 _ _
    rw [regs]
    simp only [handlerCcr, getLsbD_withPK, if_neg (Nat.not_lt.mpr h4)]
  case control =>
    rw [ControlHandler, ctl]
    simp

/-- The CCR that a division by zero stacks: N, Z, V and C are free (log entry 15). -/
def State.divideByZeroCcr (s : State) : Word :=
  withC (Config.freeBit (s.free + 3)) (withV (Config.freeBit (s.free + 2))
    (withZ (Config.freeBit (s.free + 1)) (withN (Config.freeBit s.free) s.reg.ccr)))

theorem State.divideByZero_eq (s : State) :
    s.divideByZero = (({ s with free := s.free + 4 } : State).setCcr s.divideByZeroCcr).takeSynchronous 8 := rfl

theorem State.fieldPK_divideByZeroCcr (s : State) : fieldPK s.divideByZeroCcr = fieldPK s.reg.ccr := by
  simp [State.divideByZeroCcr]

theorem State.getLsbD_divideByZeroCcr (s : State) {k : Nat} (hk : k ∉ [8, 9, 10, 11]) :
    s.divideByZeroCcr.getLsbD k = s.reg.ccr.getLsbD k := by
  simp only [List.mem_cons, List.not_mem_nil, or_false, not_or] at hk
  simp [State.divideByZeroCcr, hk]

/-- EDIV and EDIVS by zero (42_mul_div.md R352 (a)). -/
theorem exec_divideByZero {s : State} {i : Instr} (hi : i = .ediv ∨ i = .edivs) (hix : s.reg.ix = 0) :
    exec i s = .next (({ s with free := s.free + 4 } : State).setCcr s.divideByZeroCcr |>.takeSynchronous 8) := by
  rw [← State.divideByZero_eq]
  rcases hi with rfl | rfl
  · exact if_pos (congrArg BitVec.toNat hix)
  · exact if_pos (congrArg BitVec.toInt hix)

/-- Settles O31: the free bits change only N, Z, V and C of the CCR that is stacked. -/
theorem divisionByZero : Obligations.DivisionByZero := by
  intro s i hi _ hix ready
  let drawn : State := ({ s with free := s.free + 4 } : State).setCcr s.divideByZeroCcr
  have address : drawn.ia = s.ia := by
    rw [State.ia, State.ia, State.pkpc_congr (s := s) (t := drawn) rfl s.fieldPK_divideByZeroCcr]
  have taken : ExceptionTaken drawn (drawn.takeSynchronous 8) (drawn.ia + 8) 8 [] ∧
      ControlHandler drawn 8 drawn.ctl (drawn.takeSynchronous 8) :=
    State.takeSynchronous_spec ready
  rw [address] at taken
  exact ⟨s.divideByZeroCcr, fun _ => s.getLsbD_divideByZeroCcr, _, exec_divideByZero hi hix, taken⟩

end Sys2Proof.Machine

/-! ### What the shift operations give (44_shift_rotate.md R420) -/

namespace Sys2Proof.Machine

theorem ushiftRight_one_eq_halfUnsigned {w : Nat} (x : BitVec w) : x >>> 1 = halfUnsigned x := by
  have below : x.toNat / 2 < 2 ^ w := Nat.lt_of_le_of_lt (Nat.div_le_self _ _) x.isLt
  apply BitVec.eq_of_toNat_eq
  rw [halfUnsigned, BitVec.toNat_ushiftRight, BitVec.toNat_ofNat, Nat.mod_eq_of_lt below, Nat.shiftRight_eq_div_pow,
    Nat.pow_one]

theorem shiftLeft_one_eq_twice {w : Nat} (x : BitVec w) : x <<< 1 = twice x := by
  apply BitVec.eq_of_toNat_eq
  rw [twice, BitVec.toNat_shiftLeft, BitVec.toNat_ofNat, Nat.shiftLeft_eq, Nat.mul_comm, Nat.pow_one]

theorem sshiftRight_one_eq_halfSigned {w : Nat} (x : BitVec w) : x.sshiftRight 1 = halfSigned x := by
  rw [halfSigned, BitVec.sshiftRight, Int.shiftRight_eq_div_pow]
  rfl

@[simp] theorem getElem_bit {w k : Nat} (hk : k < w) (c : Bool) : (bit w c)[k] = (decide (k = 0) && c) := by
  cases c <;> simp [bit]

/-- In ROL, the carry follows the operand, and the top bit falls off. -/
theorem twicePlus_eq_setWidth_concat {w : Nat} (c : Bool) (x : BitVec w) :
    twicePlus c x = (x.concat c).setWidth w := by
  apply BitVec.eq_of_toNat_eq
  rw [twicePlus, BitVec.toNat_ofNat, BitVec.toNat_setWidth, BitVec.toNat_concat, Nat.mul_comm]

theorem rotateLeft_eq_twicePlus {w : Nat} (c : Bool) (x : BitVec w) : x <<< 1 ||| bit w c = twicePlus c x := by
  rw [twicePlus_eq_setWidth_concat]
  apply BitVec.eq_of_getLsbD_eq
  intro k hk
  cases k with
  | zero => simp [hk]
  | succ k => simp [hk, BitVec.getLsbD_eq_getElem (Nat.lt_of_succ_lt hk)]

/-- In ROR, the carry stands above the operand, and bit 0 falls off. -/
theorem halfBelow_eq_setWidth_cons {w : Nat} (c : Bool) (x : BitVec w) :
    halfBelow c x = (BitVec.cons c x >>> 1).setWidth w := by
  apply BitVec.eq_of_toNat_eq
  rw [halfBelow, BitVec.toNat_ofNat, BitVec.toNat_setWidth, BitVec.toNat_ushiftRight, BitVec.toNat_cons',
    Nat.shiftLeft_eq, Nat.shiftRight_eq_div_pow, Nat.pow_one, Nat.add_comm, Nat.mul_comm]

theorem rotateRight_eq_halfBelow {w : Nat} (c : Bool) (x : BitVec w) :
    x >>> 1 ||| bit w c <<< (w - 1) = halfBelow c x := by
  rw [halfBelow_eq_setWidth_cons]
  apply BitVec.eq_of_getLsbD_eq
  intro k hk
  by_cases top : w = k + 1
  case pos =>
    subst top
    simp [BitVec.getElem_cons, Nat.add_comm 1 k]
  case neg =>
    have below : k + 1 < w := by omega
    simp [hk, Nat.lt_sub_of_add_lt below, Ne.symm top, BitVec.getElem_cons, Nat.add_comm 1 k,
      BitVec.getLsbD_eq_getElem below]

/-- N, Z and C of a shift, and V = N XOR C. -/
theorem CcrUpdate.setShift {w : Nat} (r : BitVec w) (cout : Bool) (c : Word) :
    CcrUpdate [11, 10, 9, 8] (ShiftFlags r cout) c (setShift r cout c) :=
  (CcrUpdate.setNZVC r (r.msb != cout) cout c).imp fun f ⟨⟨n, z⟩, v, cy⟩ => by
    refine ⟨⟨n, z⟩, cy, ?_⟩
    rw [v, n, cy, BitVec.msb_eq_getLsbD_last]

/-- A shift whose result is the number `v`. -/
theorem OpResult.of_shift {w : Nat} {r v : BitVec w} (value : r = v) (cout : Bool) (c : Word) :
    OpResult [11, 10, 9, 8] (ShiftFlags v cout) v c (r, setShift r cout c) := by
  subst value
  exact ⟨rfl, .setShift r cout c⟩

theorem OpResult.lsrOp {w : Nat} (x : BitVec w) (c : Word) :
    OpResult [11, 10, 9, 8] (ShiftFlags (halfUnsigned x) (x.getLsbD 0)) (halfUnsigned x) c (Machine.lsrOp x c) :=
  .of_shift (ushiftRight_one_eq_halfUnsigned x) _ c

theorem OpResult.aslOp {w : Nat} (x : BitVec w) (c : Word) :
    OpResult [11, 10, 9, 8] (ShiftFlags (twice x) (x.getLsbD (w - 1))) (twice x) c (Machine.aslOp x c) := by
  rw [← BitVec.msb_eq_getLsbD_last]
  exact .of_shift (shiftLeft_one_eq_twice x) _ c

theorem OpResult.asrOp {w : Nat} (x : BitVec w) (c : Word) :
    OpResult [11, 10, 9, 8] (ShiftFlags (halfSigned x) (x.getLsbD 0)) (halfSigned x) c (Machine.asrOp x c) :=
  .of_shift (sshiftRight_one_eq_halfSigned x) _ c

theorem OpResult.rolOp {w : Nat} (x : BitVec w) (c : Word) :
    OpResult [11, 10, 9, 8] (ShiftFlags (twicePlus (flagC c) x) (x.getLsbD (w - 1))) (twicePlus (flagC c) x) c
      (Machine.rolOp x c) := by
  rw [← BitVec.msb_eq_getLsbD_last]
  exact .of_shift (rotateLeft_eq_twicePlus (flagC c) x) _ c

theorem OpResult.rorOp {w : Nat} (x : BitVec w) (c : Word) :
    OpResult [11, 10, 9, 8] (ShiftFlags (halfBelow (flagC c) x) (x.getLsbD 0)) (halfBelow (flagC c) x) c
      (Machine.rorOp x c) :=
  .of_shift (rotateRight_eq_halfBelow (flagC c) x) _ c

end Sys2Proof.Machine

/-! ### Shifts and rotates (44_shift_rotate.md R422 to R451) -/

namespace Sys2Proof.Machine

/-- Settles O34: each instruction applies its shift operation to one accumulator. -/
theorem registerShifts : Obligations.RegisterShifts := by
  intro s c A B D E F a b d e
  refine ⟨?lsra, ?lsrb, ?lsrd, ?lsre, ?asla, ?aslb, ?asld, ?asle, ?asra, ?asrb, ?asrd, ?asre, ?rola, ?rolb, ?rold,
    ?role, ?rora, ?rorb, ?rord, ?rore⟩
  case lsra => exact .of_update .a lsrOp rfl (.lsrOp _ _) rfl
  case lsrb => exact .of_update .b lsrOp rfl (.lsrOp _ _) rfl
  case lsrd => exact .of_update .d lsrOp rfl (.lsrOp _ _) rfl
  case lsre => exact .of_update .e lsrOp rfl (.lsrOp _ _) rfl
  case asla => exact .of_update .a aslOp rfl (.aslOp _ _) rfl
  case aslb => exact .of_update .b aslOp rfl (.aslOp _ _) rfl
  case asld => exact .of_update .d aslOp rfl (.aslOp _ _) rfl
  case asle => exact .of_update .e aslOp rfl (.aslOp _ _) rfl
  case asra => exact .of_update .a asrOp rfl (.asrOp _ _) rfl
  case asrb => exact .of_update .b asrOp rfl (.asrOp _ _) rfl
  case asrd => exact .of_update .d asrOp rfl (.asrOp _ _) rfl
  case asre => exact .of_update .e asrOp rfl (.asrOp _ _) rfl
  case rola => exact .of_update .a rolOp rfl (.rolOp _ _) rfl
  case rolb => exact .of_update .b rolOp rfl (.rolOp _ _) rfl
  case rold => exact .of_update .d rolOp rfl (.rolOp _ _) rfl
  case role => exact .of_update .e rolOp rfl (.rolOp _ _) rfl
  case rora => exact .of_update .a rorOp rfl (.rorOp _ _) rfl
  case rorb => exact .of_update .b rorOp rfl (.rorOp _ _) rfl
  case rord => exact .of_update .d rorOp rfl (.rorOp _ _) rfl
  case rore => exact .of_update .e rorOp rfl (.rorOp _ _) rfl

/-- Settles O35: each instruction reads its operand, and writes the shifted one at the same address. -/
theorem memoryShifts : Obligations.MemoryShifts := by
  intro s m c F a x y
  refine ⟨?lsr, ?lsrw, ?asl, ?aslw, ?asr, ?asrw, ?rol, ?rolw, ?ror, ?rorw⟩
  case lsr => exact .of_rmw8 lsrOp rfl (.lsrOp _ _) fun _ => length_encMem _ m
  case lsrw => exact .of_rmw16 lsrOp rfl (.lsrOp _ _) fun wf => length_encMemW _ wf
  case asl => exact .of_rmw8 aslOp rfl (.aslOp _ _) fun _ => length_encMem _ m
  case aslw => exact .of_rmw16 aslOp rfl (.aslOp _ _) fun wf => length_encMemW _ wf
  case asr => exact .of_rmw8 asrOp rfl (.asrOp _ _) fun _ => length_encMem _ m
  case asrw => exact .of_rmw16 asrOp rfl (.asrOp _ _) fun wf => length_encMemW _ wf
  case rol => exact .of_rmw8 rolOp rfl (.rolOp _ _) fun _ => length_encMem _ m
  case rolw => exact .of_rmw16 rolOp rfl (.rolOp _ _) fun wf => length_encMemW _ wf
  case ror => exact .of_rmw8 rorOp rfl (.rorOp _ _) fun _ => length_encMem _ m
  case rorw => exact .of_rmw16 rorOp rfl (.rorOp _ _) fun wf => length_encMemW _ wf

end Sys2Proof.Machine

/-! ### Changes of flow (45_program_control.md R470 to R472) -/

namespace Sys2Proof.Machine

/-- A change of flow touches no register but PC and PK (10_state.md R53). -/
theorem RegsBecome.jumpTo {r : Regs} {t : State} (h : RegsBecome r t) (a : Addr) : RegsBecome r (t.jumpTo a) := by
  rw [RegsBecome, State.reg_jumpTo, h]

theorem RegsBecome.advance {r : Regs} {t : State} (h : RegsBecome r t) (n : Nat) : RegsBecome r (t.advance n) := by
  rw [RegsBecome, State.reg_advance, h]

theorem CcrKept.jumpTo {bits : List Nat} {s t : State} (h : CcrKept bits s t) (a : Addr) :
    CcrKept bits s (t.jumpTo a) :=
  h.of_withPK rfl

theorem CcrKept.of_eq {s t : State} (h : t.reg.ccr = s.reg.ccr) : CcrKept [] s t := fun _ _ _ _ => by rw [h]

/-- A branch after bus cycles goes to its target made even, or to the next instruction, and moves only PK : PC. -/
theorem BusKept.branch {s t : State} (kept : BusKept s t) (cond : Bool) (off : Addr) (n : Nat) :
    (t.branch cond off n).ia = (if cond then evenAddr (s.ia + 6 + off) else s.ia + BitVec.ofNat 20 n) ∧
      RegsBecome s.reg (t.branch cond off n) ∧ CcrKept [] s (t.branch cond off n) ∧
      (t.branch cond off n).mac = s.mac ∧ (t.branch cond off n).ctl = t.ctl ∧
      (t.branch cond off n).mem = t.mem ∧ OutsideKept s (t.branch cond off n) := by
  have address : t.ia = s.ia := by rw [State.ia, State.ia, State.pkpc_congr (s := s)] <;> rw [kept.reg]
  have regs : RegsBecome s.reg t := by rw [RegsBecome, kept.reg]
  have ccr : CcrKept [] s t := .of_eq (by rw [kept.reg])
  rw [← address]
  cases cond with
  | true =>
    exact ⟨by rw [← t.pkpc_eq_ia]; exact t.ia_jumpTo _, regs.jumpTo _, ccr.jumpTo _, kept.mac, rfl, rfl, kept.out⟩
  | false => exact ⟨t.ia_advance n, regs.advance n, ccr.of_withPK rfl, kept.mac, rfl, rfl, kept.out⟩

/-- A branch instruction whose condition the model computes as `cond'`. -/
theorem Branches.of_branch {i : Instr} {s : State} {cond cond' : Bool} {off : Addr} {n : Nat}
    (runs : exec i s = .next (s.branch cond' off n)) (same : cond' = cond) (len : i.length = n) :
    Branches i s cond (evenAddr (s.ia + 6 + off)) := by
  subst same
  obtain ⟨target, regs, ccr, mac, ctl, mem, out⟩ := (BusKept.refl s).branch cond' off n
  exact ⟨_, runs, by rw [target, len], regs, ccr, mac, ctl, .of_mem mem, out⟩

/-! The conditions of R474 as the manual writes them. -/

theorem condGE_eq (c : Word) : condGE c = !(xor (flagN c) (flagV c)) := by
  rw [condGE]
  cases flagN c <;> cases flagV c <;> rfl

theorem condGT_eq (c : Word) : condGT c = !(flagZ c || xor (flagN c) (flagV c)) := rfl

theorem not_condGE_eq (c : Word) : (!condGE c) = xor (flagN c) (flagV c) := by
  rw [condGE_eq, Bool.not_not]

theorem not_condGT_eq (c : Word) : (!condGT c) = (flagZ c || xor (flagN c) (flagV c)) := by
  rw [condGT_eq, Bool.not_not]

theorem not_condHI_eq (c : Word) : (!condHI c) = (flagC c || flagZ c) := by
  rw [condHI, Bool.not_not]

/-- Settles O36: each row by its condition; the offset is sign-extended in either form. -/
theorem conditionalBranches : Obligations.ConditionalBranches := by
  constructor
  case left =>
    intro s rr f n z v c
    simp only [List.forall_mem_cons, List.not_mem_nil, false_implies, implies_true, and_true]
    refine ⟨?bra, ?brn, ?bcc, ?bcs, ?beq, ?bge, ?bgt, ?bhi, ?ble, ?bls, ?blt, ?bmi, ?bne, ?bpl, ?bvc, ?bvs⟩
    case bge => exact .of_branch rfl (condGE_eq f) rfl
    case bgt => exact .of_branch rfl (condGT_eq f) rfl
    case ble => exact .of_branch rfl (not_condGT_eq f) rfl
    case bls => exact .of_branch rfl (not_condHI_eq f) rfl
    case blt => exact .of_branch rfl (not_condGE_eq f) rfl
    case bra | brn | bcc | bcs | beq | bhi | bmi | bne | bpl | bvc | bvs => exact .of_branch rfl rfl rfl
  case right =>
    intro s rrrr f n z v c
    simp only [List.forall_mem_cons, List.not_mem_nil, false_implies, implies_true, and_true]
    refine ⟨?lbra, ?lbrn, ?lbcc, ?lbcs, ?lbeq, ?lbge, ?lbgt, ?lbhi, ?lble, ?lbls, ?lblt, ?lbmi, ?lbne, ?lbpl, ?lbvc,
      ?lbvs, ?lbev, ?lbmv⟩
    case lbge => exact .of_branch rfl (condGE_eq f) rfl
    case lbgt => exact .of_branch rfl (condGT_eq f) rfl
    case lble => exact .of_branch rfl (not_condGT_eq f) rfl
    case lbls => exact .of_branch rfl (not_condHI_eq f) rfl
    case lblt => exact .of_branch rfl (not_condGE_eq f) rfl
    case lbra | lbrn | lbcc | lbcs | lbeq | lbhi | lbmi | lbne | lbpl | lbvc | lbvs | lbev | lbmv =>
      exact .of_branch rfl rfl rfl

end Sys2Proof.Machine

/-! ### Branches on bits of memory (45_program_control.md R514, R515) -/

namespace Sys2Proof.Machine

theorem length_encBitBranch (op8 op16 mask : Byte) {m : Mem} {r : Rel} (h : bitBranchForm m r = true) :
    2 * (encBitBranch op8 op16 mask m r).length = relLen r := by
  cases m with
  | ind8 i ff => cases r with
    | r8 rr => rfl
    | r16 rrrr => cases h
  | ind16 i gggg => cases r with
    | r8 rr => cases h
    | r16 rrrr => rfl
  | ext hhll => cases r with
    | r8 rr => cases h
    | r16 rrrr => rfl
  | eoff i => cases r <;> cases h

/-- All bits of the mask are 1 in the byte exactly when all are 0 in its complement. -/
theorem not_and_eq_zero_iff {w : Nat} (x m : BitVec w) : ~~~x &&& m = 0#w ↔ x &&& m = m := by
  simp only [BitVec.eq_of_getLsbD_eq_iff, BitVec.getLsbD_and, BitVec.getLsbD_not, BitVec.getLsbD_zero]
  grind

/-- Settles O37: one read, then a branch from the state that it leaves. -/
theorem bitBranches : Obligations.BitBranches := by
  intro s m mm r x off e he wf hs
  have offset_eq : relValue r = BitVec.ofInt 20 off := by cases r <;> rfl
  obtain ⟨kept, read, -⟩ := s.read8_spec (s.ea m) hs
  have set_iff : (~~~x &&& mm == 0) = decide (x &&& mm = mm) := decide_eq_decide.mpr (not_and_eq_zero_iff x mm)
  have ⟨runs, len⟩ : exec e.1 s = .next ((s.read8 (s.ea m)).2.branch e.2 (relValue r) (relLen r)) ∧
      e.1.length = relLen r := by
    simp only [List.mem_cons, List.not_mem_nil, or_false] at he
    rcases he with rfl | rfl
    · exact ⟨rfl, length_encBitBranch _ _ mm wf⟩
    · exact ⟨by rw [← set_iff]; rfl, length_encBitBranch _ _ mm wf⟩
  obtain ⟨target, regs, ccr, mac, ctl, mem, out⟩ := kept.branch e.2 (relValue r) (relLen r)
  refine ⟨_, runs, ?_, regs, ccr, mac, ?_, .of_mem (mem.trans read), out⟩
  · rw [target, len, offset_eq]
  · rw [ControlKept, ctl]
    exact kept.ctl

end Sys2Proof.Machine

/-! ### Jumps and calls (45_program_control.md R475, R516 to R519) -/

namespace Sys2Proof.Machine

/-- Two words pushed into RAM: the four bytes of a frame. -/
theorem StoresWord.frame {s t u : State} {v w : Word} (hf : s.frameWritable = true)
    (kept : ∀ a, t.writable a = s.writable a) (first : StoresWord s t s.sksp v)
    (second : StoresWord t u (s.sksp - 2) w) (b : Addr) :
    u.dataByte b =
      if b = s.sksp then hi v else if b = s.sksp + 1 then lo v
      else if b = s.sksp - 2 then hi w else if b = s.sksp - 1 then lo w
      else s.dataByte b := by
  simp only [State.frameWritable, Bool.and_eq_true] at hf
  obtain ⟨⟨⟨f0, f1⟩, f2⟩, f3⟩ := hf
  obtain ⟨n1, n2, n3, n4, -⟩ := frame_distinct s.sksp
  rw [second b, first b, kept, kept, sub_two_add_one]
  grind

/-- The frame of a subroutine call in RAM (45_program_control.md R475). -/
theorem State.stackCall_spec (s : State) (r : Addr) (hs : s.executing = true) (hf : s.frameWritable = true) :
    FrameStacked s (s.stackCall r) r ∧ (s.stackCall r).reg = s.reg.withS (s.sksp - 4) ∧
      (s.stackCall r).mac = s.mac ∧ ControlKept s (s.stackCall r) ∧ OutsideKept s (s.stackCall r) := by
  obtain ⟨first, reg1, mac1, ctl1, out1⟩ := s.push16_spec (offset r) hs
  obtain ⟨second, reg2, mac2, ctl2, out2⟩ :=
    (s.push16 (offset r)).push16_spec (withPK (bank r) s.reg.ccr) (ctl1.executing hs)
  rw [State.sksp_of_withS reg1] at second reg2
  have reg : (s.stackCall r).reg = s.reg.withS (s.sksp - 4) := by
    rw [State.stackCall, reg2, reg1, sub_two_sub_two]
    rfl
  have writable (a : Addr) : (s.push16 (offset r)).writable a = s.writable a := by rw [State.writable, out1.1]; rfl
  exact ⟨⟨State.sksp_of_withS reg, first.frame hf writable second⟩, reg, mac2.trans mac1, ctl1.trans ctl2,
    out2.1.trans out1.1, out2.2.trans out1.2⟩

/-- What a call with return value `r` leaves when it goes to `target`. -/
def Called (s : State) (r target : Addr) (t : State) : Prop :=
  t.ia = evenAddr target ∧ FrameStacked s t r ∧ RegsBecome { s.reg with sk := t.reg.sk, sp := t.reg.sp } t ∧
    CcrKept [] s t ∧ t.mac = s.mac ∧ ControlKept s t ∧ OutsideKept s t

theorem State.called_stackCall {s : State} (r target : Addr) (hs : s.executing = true) (hf : s.frameWritable = true) :
    Called s r target ((s.stackCall r).jumpTo target) := by
  obtain ⟨frame, reg, mac, ctl, out⟩ := s.stackCall_spec r hs hf
  generalize s.stackCall r = t at *
  have regs : RegsBecome { s.reg with sk := t.reg.sk, sp := t.reg.sp } t := by
    rw [RegsBecome, reg]
    rfl
  have ccr : CcrKept [] s t := .of_eq (by rw [reg]; rfl)
  exact ⟨t.ia_jumpTo target, frame, regs.jumpTo target, ccr.jumpTo target, mac, ctl, out⟩

theorem State.pkpc_sub_two (s : State) : s.pkpc - 2 = s.ia + 4 := by
  rw [s.pkpc_eq_ia]
  bv_omega

/-- The calls with their return values and targets; BSR lowers PK : PC by 2 first (log entry 21). -/
theorem exec_call (s : State) (j : JumpTarget) (rr : BitVec 8) (rrrr : BitVec 16) :
    exec (.jsr j) s = .next ((s.stackCall (s.ia + 6)).jumpTo (s.jumpAddr j)) ∧
      exec (.lbsr rrrr) s = .next ((s.stackCall (s.ia + 6)).jumpTo (s.ia + 6 + BitVec.ofInt 20 rrrr.toInt)) ∧
      exec (.bsr rr) s = .next ((s.stackCall (s.ia + 4)).jumpTo (s.ia + 4 + BitVec.ofInt 20 rr.toInt)) := by
  rw [← s.pkpc_eq_ia, ← s.pkpc_sub_two]
  exact ⟨rfl, rfl, rfl⟩

/-- Settles O38: a jump is a change of flow, a call one after its frame. -/
theorem jumpsAndCalls : Obligations.JumpsAndCalls := by
  intro s j rr rrrr
  obtain ⟨jsr, lbsr, bsr⟩ := exec_call s j rr rrrr
  refine ⟨⟨_, rfl, State.ia_jumpTo _ _, rfl, (CcrKept.of_eq rfl).jumpTo _, rfl, rfl, .of_mem rfl, rfl, rfl⟩, ?calls⟩
  simp only [List.forall_mem_cons, List.not_mem_nil, false_implies, implies_true, and_true]
  refine ⟨?jsr, ?lbsr, ?bsr⟩
  case jsr => exact fun hs hf => ⟨_, jsr, State.called_stackCall _ _ hs hf⟩
  case lbsr => exact fun hs hf => ⟨_, lbsr, State.called_stackCall _ _ hs hf⟩
  case bsr => exact fun hs hf => ⟨_, bsr, State.called_stackCall _ _ hs hf⟩

end Sys2Proof.Machine

/-! ### Returns (45_program_control.md R520, R521) -/

namespace Sys2Proof.Machine

/-- Where memory answers, a word pulled is the one at SK : SP + 2, and SK : SP is there afterwards; no latch but that of
BKPT is touched. -/
theorem State.pull16_memory_spec (s : State) (h : s.readable (s.sksp + 2) = true)
    (h' : s.readable (s.sksp + 2 + 1) = true) :
    s.pull16.1 = s.dataWord (s.sksp + 2) ∧ s.pull16.2.reg = s.reg.withS (s.sksp + 2) ∧ s.pull16.2.mac = s.mac ∧
      s.pull16.2.mem = s.mem ∧ s.pull16.2.ctl = { s.ctl with bkptLatch := s.pull16.2.ctl.bkptLatch } ∧
      OutsideKept s s.pull16.2 := by
  obtain ⟨kept, mem, value, ctl⟩ := (s.setSksp (s.sksp + 2)).read16_memory_spec (s.sksp + 2) h h'
  rw [State.pull16, State.sksp_setSksp]
  refine ⟨value, kept.reg, kept.mac, mem, ?_, kept.out⟩
  rw [ctl]
  rfl

/-- A write of the CCR changes nothing else but IRQ7's edge latch (60_exceptions.md R723 (b)). -/
theorem State.writeCcr_spec (s : State) (v : Word) :
    (s.writeCcr v).reg = { s.reg with ccr := v } ∧ (s.writeCcr v).mac = s.mac ∧ (s.writeCcr v).mem = s.mem ∧
      (s.writeCcr v).ctl = { s.ctl with nmiLatch := nmiAfter s (s.writeCcr v) } ∧ OutsideKept s (s.writeCcr v) := by
  have reg : (s.writeCcr v).reg = { s.reg with ccr := v } := by
    rw [State.writeCcr]
    split <;> rfl
  have edge (p q : Prop) [Decidable p] [Decidable q] (b : Bool) :
      (decide p && decide q && b) = decide (p ∧ q ∧ b = true) := by
    simp [Bool.and_assoc]
  rw [nmiAfter, reg, edge, State.writeCcr]
  split
  case isTrue rises => exact ⟨rfl, rfl, rfl, by rw [decide_eq_true rises, Bool.or_true]; rfl, rfl, rfl⟩
  case isFalse stays => exact ⟨rfl, rfl, rfl, by rw [decide_eq_false stays, Bool.or_false]; rfl, rfl, rfl⟩

theorem nmiAfter_congr {s s' t t' : State} (latch : s'.ctl.nmiLatch = s.ctl.nmiLatch)
    (before : fieldIP s'.reg.ccr = fieldIP s.reg.ccr) (after : fieldIP t'.reg.ccr = fieldIP t.reg.ccr)
    (plat : s'.plat = s.plat) : nmiAfter s' t' = nmiAfter s t := by
  rw [nmiAfter, nmiAfter, latch, before, after, plat]

theorem add_two_add_two (x : Addr) : x + 2 + 2 = x + 4 := by bv_omega

/-- Between the two pulls of a return: SK : SP is at the word of the CCR, the CCR is `c`, and nothing else has changed
but latches. -/
structure CcrPulled (s m : State) (c : Word) : Prop where
  reg : m.reg = { s.reg.withS (s.sksp + 2) with ccr := c }
  mac : m.mac = s.mac
  mem : m.mem = s.mem
  out : OutsideKept s m

/-- The second pull of a return, where memory answers: the word of PC, and SK : SP is there afterwards. -/
theorem CcrPulled.pull16_spec {s m : State} {c : Word} (p : CcrPulled s m c)
    (h : s.readableFrom (s.sksp + 2) 4 = true) :
    m.pull16.1 = s.dataWord (s.sksp + 4) ∧ m.pull16.2.reg = { s.reg.withS (s.sksp + 4) with ccr := c } ∧
      m.pull16.2.mac = s.mac ∧ m.pull16.2.mem = s.mem ∧
      m.pull16.2.ctl = { m.ctl with bkptLatch := m.pull16.2.ctl.bkptLatch } ∧ OutsideKept s m.pull16.2 := by
  obtain ⟨-, -, r2, r3⟩ := readable_of_readableFrom_four h
  have place : m.sksp + 2 = s.sksp + 2 + 2 := by
    rw [State.sksp, p.reg]
    exact congrArg (· + 2) (pair_bank_offset _)
  have answers (a : Addr) (ha : s.readable a = true) : m.readable a = true := by
    rw [State.readable, p.out.1]
    exact ha
  rw [← place] at r2 r3
  obtain ⟨value, reg, mac, mem, ctl, out⟩ := m.pull16_memory_spec (answers _ r2) (answers _ r3)
  rw [place, add_two_add_two] at value reg
  refine ⟨?value, ?reg, mac.trans p.mac, mem.trans p.mem, ctl, out.1.trans p.out.1, out.2.trans p.out.2⟩
  case value => rw [value, State.dataWord, DataKept.of_mem p.mem, DataKept.of_mem p.mem]; rfl
  case reg =>
    rw [reg, p.reg]
    rfl

/-- A return whose first pull and what it does to the CCR led from `s` to `m`. -/
theorem CcrPulled.completes {i : Instr} {s m : State} {c : Word} {a : Addr} (p : CcrPulled s m c)
    (h : s.readableFrom (s.sksp + 2) 4 = true) (runs : exec i s = .next (m.pull16.2.jumpTo a)) :
    Completes i s fun t =>
      t.ia = evenAddr a ∧ RegsBecome (s.reg.withS (s.sksp + 4)) t ∧ (∃ k, t.reg.ccr = withPK k c) ∧ t.mac = s.mac ∧
        t.ctl = { m.ctl with bkptLatch := t.ctl.bkptLatch } ∧ DataKept s t ∧ OutsideKept s t := by
  obtain ⟨-, reg, mac, mem, ctl, out⟩ := p.pull16_spec h
  generalize m.pull16.2 = u at *
  have regs : RegsBecome (s.reg.withS (s.sksp + 4)) u := by rw [RegsBecome, reg]
  exact ⟨_, runs, u.ia_jumpTo a, regs.jumpTo a, ⟨_, by rw [State.reg_jumpTo, reg]⟩, mac, ctl, .of_mem mem, out⟩

/-- RTS in RAM: PC and PK come from the stack, the rest of the CCR stays (45_program_control.md R520). -/
theorem completes_rts {s : State} (h : s.readableFrom (s.sksp + 2) 4 = true) : Completes .rts s fun t =>
    t.ia = evenAddr (pair (nib0 (s.dataWord (s.sksp + 2))) (s.dataWord (s.sksp + 4)) - 2) ∧
      RegsBecome (s.reg.withS (s.sksp + 4)) t ∧ CcrKept [] s t ∧ t.mac = s.mac ∧ ControlKept s t ∧ DataKept s t ∧
      OutsideKept s t := by
  obtain ⟨r0, r1, -, -⟩ := readable_of_readableFrom_four h
  obtain ⟨ccrWord, reg, mac, mem, ctl, out⟩ := s.pull16_memory_spec r0 r1
  have pulled : CcrPulled s s.pull16.2 s.reg.ccr := ⟨reg, mac, mem, out⟩
  obtain ⟨pcWord, -⟩ := pulled.pull16_spec h
  have runs : exec .rts s = .next (s.pull16.2.pull16.2.jumpTo
      (pair (nib0 (s.dataWord (s.sksp + 2))) (s.dataWord (s.sksp + 4)) - 2)) := by
    rw [← ccrWord, ← pcWord]
    rfl
  obtain ⟨t, runs, target, regs, ⟨k, ccr⟩, mac', ctl', data, out'⟩ := pulled.completes h runs
  exact ⟨t, runs, target, regs, (CcrKept.of_eq rfl).of_withPK ccr, mac', by rw [ControlKept, ctl', ctl], data, out'⟩

/-- RTI in RAM: the whole CCR and PC come from the stack (45_program_control.md R521). -/
theorem completes_rti {s : State} (h : s.readableFrom (s.sksp + 2) 4 = true) : Completes .rti s fun t =>
    let c := s.dataWord (s.sksp + 2)
    t.ia = evenAddr (pair (nib0 c) (s.dataWord (s.sksp + 4)) - 6) ∧
      RegsBecome (s.reg.withS (s.sksp + 4)) t ∧ (∀ k, 4 ≤ k → k < 16 → t.reg.ccr.getLsbD k = c.getLsbD k) ∧
      t.mac = s.mac ∧ t.ctl = { s.ctl with nmiLatch := nmiAfter s t, bkptLatch := t.ctl.bkptLatch } ∧ DataKept s t ∧
      OutsideKept s t := by
  obtain ⟨r0, r1, -, -⟩ := readable_of_readableFrom_four h
  obtain ⟨ccrWord, reg, mac, mem, ctl, out⟩ := s.pull16_memory_spec r0 r1
  generalize s.dataWord (s.sksp + 2) = c at *
  obtain ⟨regW, macW, memW, ctlW, outW⟩ := s.pull16.2.writeCcr_spec c
  have pulled : CcrPulled s (s.pull16.2.writeCcr c) c :=
    ⟨by rw [regW, reg], macW.trans mac, memW.trans mem, outW.1.trans out.1, outW.2.trans out.2⟩
  obtain ⟨pcWord, regPulled, -⟩ := pulled.pull16_spec h
  have pk : (s.pull16.2.writeCcr c).pull16.2.pk = nib0 c := by
    rw [State.pk, regPulled]
    rfl
  have runs : exec .rti s = .next ((s.pull16.2.writeCcr c).pull16.2.jumpTo
      (pair (nib0 c) (s.dataWord (s.sksp + 4)) - 6)) := by
    rw [← pk, ← pcWord, ← ccrWord]
    rfl
  obtain ⟨t, runs, target, regs, ⟨k, ccr⟩, mac', ctl', data, out'⟩ := pulled.completes h runs
  have edge : nmiAfter s.pull16.2 (s.pull16.2.writeCcr c) = nmiAfter s t :=
    nmiAfter_congr (by rw [ctl]) (by rw [reg]; rfl) (by rw [regW, ccr, fieldIP_withPK]) out.1
  refine ⟨t, runs, target, regs, fun n h4 _ => ?_, mac', by rw [ctl', ctlW, edge, ctl], data, out'⟩
  rw [ccr, getLsbD_withPK, if_neg (Nat.not_lt.mpr h4)]

end Sys2Proof.Machine

/-! ### The way back: the frame that a call or an exception stacks is the one that a return pulls -/

namespace Sys2Proof.Machine

/-- The words of a frame in RAM, read where a return pulls them: the CCR word, and PC's above it. -/
theorem FrameStacked.words {s t : State} {r : Addr} (frame : FrameStacked s t r) :
    t.dataWord (t.sksp + 2) = withPK (bank r) s.reg.ccr ∧ t.dataWord (t.sksp + 4) = offset r := by
  obtain ⟨sp, bytes⟩ := frame
  obtain ⟨n1, n2, n3, n4, n5⟩ := frame_distinct s.sksp
  have lower : t.sksp + 2 = s.sksp - 2 := by rw [sp]; bv_omega
  have upper : t.sksp + 4 = s.sksp := by rw [sp]; bv_omega
  have apart : s.sksp - 1 ≠ s.sksp - 2 := by bv_omega
  rw [lower, upper, State.dataWord, State.dataWord, sub_two_add_one]
  simp only [bytes, if_true, if_neg n1.symm, if_neg n2.symm, if_neg n3.symm, if_neg n4.symm, if_neg n5, if_neg apart,
    word_hi_lo, and_self]

theorem nib0_withPK (k : Ext) (c : Word) : nib0 (withPK k c) = k := fieldPK_withPK k c

theorem readableFrom_four {s : State} {a : Addr} (h0 : s.readable a = true) (h1 : s.readable (a + 1) = true)
    (h2 : s.readable (a + 2) = true) (h3 : s.readable (a + 3) = true) : s.readableFrom a 4 = true := by
  simpa [State.readableFrom, List.range_succ, and_assoc] using ⟨h0, h1, h2, h3⟩

/-- Memory answers where a frame was stacked in RAM. -/
theorem FrameStacked.readableFrom {s t : State} {r : Addr} (frame : FrameStacked s t r) (out : OutsideKept s t)
    (hf : s.frameWritable = true) : t.readableFrom (t.sksp + 2) 4 = true := by
  simp only [State.frameWritable, Bool.and_eq_true] at hf
  obtain ⟨⟨⟨f0, f1⟩, f2⟩, f3⟩ := hf
  have answers (a b : Addr) (place : b = a) (ha : s.writable a = true) : t.readable b = true := by
    rw [place, State.readable, out.1]
    exact s.readable_of_writable a ha
  rw [frame.1]
  exact readableFrom_four (answers _ _ (by bv_omega) f2) (answers _ _ (by bv_omega) f3)
    (answers _ _ (by bv_omega) f0) (answers _ _ (by bv_omega) f1)

/-- Registers come back when what stacked the frame changed none but SK : SP, and the return moves SK : SP up by 4. -/
theorem FrameStacked.regs_return {s t u : State} {r : Addr} (frame : FrameStacked s t r)
    (there : RegsBecome { s.reg with sk := t.reg.sk, sp := t.reg.sp } t)
    (back : RegsBecome (t.reg.withS (t.sksp + 4)) u) : RegsBecome s.reg u := by
  have sp : t.sksp + 4 = s.sksp := by
    rw [frame.1]
    bv_omega
  rw [sp, there] at back
  rw [RegsBecome, back]
  simp [Regs.withS, State.sksp]

/-- The addresses of instructions are even, and so are their lengths (10_state.md R39, 30_encoding.md R141). -/
theorem evenAddr_ia_add_length {s : State} (even : s.pcEven = true) (i : Instr) :
    evenAddr (s.ia + BitVec.ofNat 20 i.length) = s.ia + BitVec.ofNat 20 i.length := by
  have pkpc : s.pkpc.getLsbD 0 = false := (getLsbD_zero_pkpc s).trans ((pcEven_iff s).mp even)
  have ia : s.ia = s.pkpc + BitVec.ofNat 20 0xFFFFA := by
    rw [State.ia]
    bv_omega
  have address : s.ia.getLsbD 0 = false := ia ▸ even_add pkpc (even_ofNat rfl)
  exact evenAddr_of_even _ (even_add address (even_ofNat (Nat.mul_mod_right 2 _)))

/-- A call whose return value is the address after it plus 2, and RTS. -/
theorem rts_after_call {i : Instr} {s : State} {r target : Addr}
    (runs : exec i s = .next ((s.stackCall r).jumpTo target)) (next : r - 2 = s.ia + BitVec.ofNat 20 i.length)
    (hs : s.executing = true) (hf : s.frameWritable = true) (even : s.pcEven = true) :
    ∃ t u, exec i s = .next t ∧ exec .rts t = .next u ∧ u.ia = s.ia + BitVec.ofNat 20 i.length ∧
      RegsBecome s.reg u ∧ CcrKept [] s u := by
  obtain ⟨-, frame, there, ccr, -, -, out⟩ := State.called_stackCall r target hs hf
  obtain ⟨u, returns, address, back, ccr', -⟩ := completes_rts (frame.readableFrom out hf)
  obtain ⟨ccrWord, pcWord⟩ := frame.words
  rw [ccrWord, pcWord, nib0_withPK, pair_bank_offset, next, evenAddr_ia_add_length even] at address
  exact ⟨_, u, runs, returns, address, frame.regs_return there back,
    fun k h4 h16 hk => (ccr' k h4 h16 hk).trans (ccr k h4 h16 hk)⟩

theorem length_jsr (j : JumpTarget) : (Instr.jsr j).length = 4 := by cases j <;> rfl

/-- Settles O39: RTS by its two pulls; after a call they find the call's frame. -/
theorem returnsFromCall : Obligations.ReturnsFromCall := by
  refine ⟨fun s _ h => completes_rts h, fun s j rr rrrr hs hf even => ?back⟩
  obtain ⟨jsr, lbsr, bsr⟩ := exec_call s j rr rrrr
  have after_six : s.ia + 6 - 2 = s.ia + BitVec.ofNat 20 4 := by bv_omega
  have after_four : s.ia + 4 - 2 = s.ia + BitVec.ofNat 20 2 := by bv_omega
  simp only [List.forall_mem_cons, List.not_mem_nil, false_implies, implies_true, and_true]
  refine ⟨?jsr, ?lbsr, ?bsr⟩
  case jsr => exact rts_after_call jsr (by rw [length_jsr]; exact after_six) hs hf even
  case lbsr => exact rts_after_call lbsr after_six hs hf even
  case bsr => exact rts_after_call bsr after_four hs hf even

/-- Settles O41: SWI stacks the address after it plus 6, and RTI takes the 6 off (60_exceptions.md R742 (b), R775). -/
theorem returnsFromException : Obligations.ReturnsFromException := by
  refine ⟨fun s _ h => completes_rti h, fun s _ ready even => ?back⟩
  obtain ⟨⟨frame, -, -, there, -, -, out⟩, -⟩ := State.takeSynchronous_spec ready
  have hf : s.frameWritable = true := by
    simp only [State.exceptionReady, Bool.and_eq_true] at ready
    obtain ⟨⟨-, writable⟩, -⟩ := ready
    exact writable
  obtain ⟨u, runs, address, back, ccr', -⟩ := completes_rti (frame.readableFrom out hf)
  obtain ⟨ccrWord, pcWord⟩ := frame.words
  have next : s.ia + 8 - 6 = s.ia + BitVec.ofNat 20 (Instr.length .swi) := by
    show _ = s.ia + 2
    bv_omega
  rw [ccrWord, pcWord, nib0_withPK, pair_bank_offset, next, evenAddr_ia_add_length even] at address
  refine ⟨_, u, rfl, runs, address, frame.regs_return there back, fun k h4 h16 _ => ?_⟩
  rw [ccr' k h4 h16, ccrWord, getLsbD_withPK, if_neg (Nat.not_lt.mpr h4)]

end Sys2Proof.Machine

/-! ### Index registers and stack pointer: additions, transfers and exchanges (46_index_stack_ccr.md R560 to R612) -/

namespace Sys2Proof.Machine

/-- A one-word instruction that replaces registers by those of `r`, the CCR not among them. -/
theorem Computes.of_registers {i : Instr} {s : State} {r : Regs}
    (runs : exec i s = .next (({ s with reg := r } : State).advance 2)) (pc : r.pc = s.reg.pc)
    (ccr : r.ccr = s.reg.ccr) (len : i.length = 2) : Computes i s r [] anyFlags :=
  .of_exchange (fun _ => r) runs pc ccr len

/-- `zext_20` as the number it stands for. -/
theorem ofNat_toNat_eq_zext20 {w : Nat} (v : BitVec w) : BitVec.ofNat 20 v.toNat = zext20 v := BitVec.ofNat_toNat 20 v

/-- AIX, AIY and AIZ: the pair that `put` names takes `a`, and Z says whether its 16-bit register is zero
(R569 to R571). -/
theorem Computes.of_addImmediate {i : Instr} {s : State} {v : Imm} {a : Addr} (put : Regs → Regs)
    (runs : exec i s =
      .next ((s.mapReg fun r => { put r with ccr := withZ (offset a == 0) r.ccr }).advance (immLen v)))
    (pc : (put s.reg).pc = s.reg.pc) (len : i.length = immLen v) :
    Computes i s (put s.reg) [10] fun f => flagZ f = decide (offset a = 0) :=
  .of_mapReg runs (by rw [← pc])
    ((CcrUpdate.unchanged _).withZ fun _ _ => flagZ_withZ _ _) fun _ => len

/-- Settles O42: B is added unsigned, D, E and an immediate signed. -/
theorem pointerAdditions : Obligations.PointerAdditions := by
  intro s v r b d e i
  have unsigned : b = zext20 s.reg.b := ofNat_toNat_eq_zext20 _
  have immediate : i = immValue v := by cases v <;> rfl
  rw [unsigned, immediate]
  refine ⟨?abx, ?aby, ?abz, ?adx, ?ady, ?adz, ?aex, ?aey, ?aez, ?aix, ?aiy, ?aiz, ?ais⟩
  case abx | aby | abz | adx | ady | adz | aex | aey | aez => exact .of_registers rfl rfl rfl rfl
  case aix => exact .of_addImmediate (fun r => r.withX (s.xkix + immValue v)) rfl rfl (by cases v <;> rfl)
  case aiy => exact .of_addImmediate (fun r => r.withY (s.ykiy + immValue v)) rfl rfl (by cases v <;> rfl)
  case aiz => exact .of_addImmediate (fun r => r.withZ (s.zkiz + immValue v)) rfl rfl (by cases v <;> rfl)
  case ais =>
    exact .of_mapReg (f := fun r => r.withS (s.sksp + immValue v)) rfl rfl (.unchanged _) fun _ => by cases v <;> rfl

/-- Settles O43: each row says the registers that the model leaves. -/
theorem indexTransfers : Obligations.IndexTransfers := by
  intro s
  simp only [List.forall_mem_cons, List.not_mem_nil, false_implies, implies_true, and_true]
  refine ⟨?tsx, ?tsy, ?tsz, ?txs, ?tys, ?tzs, ?txy, ?txz, ?tyx, ?tyz, ?tzx, ?tzy, ?xgdx, ?xgdy, ?xgdz, ?xgex, ?xgey,
    ?xgez, ?tbek, ?tbsk, ?tbxk, ?tbyk, ?tbzk, ?tekb, ?tskb, ?txkb, ?tykb, ?tzkb⟩
  case tsx | tsy | tsz | txs | tys | tzs | txy | txz | tyx | tyz | tzx | tzy => exact .of_registers rfl rfl rfl rfl
  case xgdx | xgdy | xgdz | xgex | xgey | xgez => exact .of_registers rfl rfl rfl rfl
  case tbek | tbsk | tbxk | tbyk | tbzk => exact .of_registers rfl rfl rfl rfl
  case tekb | tskb | txkb | tykb | tzkb =>
    exact .of_registers (by rw [BitVec.ofNat_toNat]; rfl) rfl rfl rfl

end Sys2Proof.Machine

/-! ### Stack: one byte (46_index_stack_ccr.md R616 to R620) -/

namespace Sys2Proof.Machine

theorem CcrUpdate.of_eq {c d : Word} (h : d = c) : CcrUpdate [] anyFlags c d := h ▸ .unchanged c

/-- A push of a byte: the store is at the slot above SK : SP, which then moves down by 1 (10_state.md R38). -/
theorem WritesByte.of_push8 {i : Instr} {s : State} {v : Byte} (runs : exec i s = .next ((s.push8 v).advance 2))
    (len : i.length = 2) : WritesByte i s (s.reg.withS (s.sksp - 1)) [] anyFlags (s.sksp + 1) v :=
  .of_mapReg (f := fun r => r.withS (pair r.sk r.sp - 1)) (s.write8_spec (s.sksp + 1) v) runs rfl (.unchanged _)
    fun _ => len

/-- A pull of a byte into the register that `put` names: the byte is read two above SK : SP, which then moves up by 1
(10_state.md R38). -/
theorem ReadsInto.of_pull8 {i : Instr} {s : State} (put : Regs → Regs)
    (runs : exec i s = .next (((s.read8 (s.sksp + 2)).2.mapReg fun r =>
      put (r.withS (pair r.sk r.sp + 1))).advance 2))
    (pc : (put (s.reg.withS (s.sksp + 1))).pc = s.reg.pc) (ccr : (put (s.reg.withS (s.sksp + 1))).ccr = s.reg.ccr)
    (len : i.length = 2) : ReadsInto i s (put (s.reg.withS (s.sksp + 1))) [] anyFlags :=
  .of_mapReg (fun hs => have ⟨kept, mem, _⟩ := s.read8_spec (s.sksp + 2) hs; ⟨kept, mem⟩) runs (by rw [← pc]; rfl)
    (.of_eq ccr) fun _ => len

/-- Settles O45: each is one byte cycle and a move of SK : SP by 1. -/
theorem pushPullBytes : Obligations.PushPullBytes := by
  intro s
  refine ⟨?psha, ?pshb, ?pula, ?pulb⟩
  case psha | pshb => exact .of_push8 rfl rfl
  case pula => exact .of_pull8 (fun r => { r with a := s.byteAt (s.sksp + 2) }) rfl rfl rfl rfl
  case pulb => exact .of_pull8 (fun r => { r with b := s.byteAt (s.sksp + 2) }) rfl rfl rfl rfl

end Sys2Proof.Machine

/-! ### The CCR as an operand (46_index_stack_ccr.md R640 to R648) -/

namespace Sys2Proof.Machine

theorem fieldPK_withUpper12 (v c : Word) : fieldPK (withUpper12 v c) = fieldPK c := by
  apply BitVec.eq_of_getLsbD_eq
  intro k hk
  simp only [fieldPK, BitVec.getLsbD_extractLsb', getLsbD_withUpper12]
  grind

theorem fieldPK_withUpper8 (v : Byte) (c : Word) : fieldPK (withUpper8 v c) = fieldPK c := by
  apply BitVec.eq_of_getLsbD_eq
  intro k hk
  simp only [fieldPK, BitVec.getLsbD_extractLsb', getLsbD_withUpper8]
  grind

/-- A write of the CCR as a whole: `v`, which has the PK of the CCR before, replaces it, IRQ7's latch follows
(60_exceptions.md R723 (b)), and the inhibit protects the next instruction (R648). -/
theorem completes_of_writeCcr {i : Instr} {s : State} {v : Word} {n : Nat}
    (runs : exec i s = .next (((s.writeCcr v).setInhibit true).advance n)) (pk : fieldPK v = fieldPK s.reg.ccr)
    (len : i.length = n) : Completes i s fun t =>
      RegsBecome s.reg t ∧ Advanced i s t ∧ (∀ k, 4 ≤ k → k < 16 → t.reg.ccr.getLsbD k = v.getLsbD k) ∧
        t.mac = s.mac ∧ t.ctl = { s.ctl with inhibit := true, nmiLatch := nmiAfter s t } ∧ DataKept s t ∧
        OutsideKept s t := by
  obtain ⟨reg, mac, mem, ctl, out⟩ := s.writeCcr_spec v
  generalize s.writeCcr v = u at *
  have regs : RegsBecome s.reg (u.setInhibit true) := by rw [RegsBecome, State.setInhibit, reg]
  have pkpc : (u.setInhibit true).pkpc = s.pkpc :=
    State.pkpc_congr (by rw [State.setInhibit, reg]) (by rw [State.setInhibit, reg, pk])
  refine ⟨_, runs, regs.advance n, by rw [Advanced, State.pkpc_advance, pkpc, len], fun k h4 _ => ?ccr, mac, ?ctl,
    .of_mem mem, out⟩
  case ccr =>
    rw [State.advance_reg_ccr, getLsbD_withPK, if_neg (Nat.not_lt.mpr h4), State.setInhibit, reg]
  case ctl =>
    have edge : nmiAfter s u = nmiAfter s ((u.setInhibit true).advance n) :=
      nmiAfter_congr rfl rfl (by rw [State.advance_reg_ccr, fieldIP_withPK]; rfl) rfl
    rw [← edge, State.advance_ctl, State.setInhibit, ctl]

/-- The same where the operation takes bits 15 to 4 of `w` and keeps PK (10_state.md R44). -/
theorem completes_of_withUpper12 {i : Instr} {s : State} {w : Word} {n : Nat}
    (runs : exec i s = .next (((s.writeCcr (withUpper12 w s.reg.ccr)).setInhibit true).advance n))
    (len : i.length = n) : Completes i s fun t =>
      RegsBecome s.reg t ∧ Advanced i s t ∧ (∀ k, 4 ≤ k → k < 16 → t.reg.ccr.getLsbD k = w.getLsbD k) ∧
        t.mac = s.mac ∧ t.ctl = { s.ctl with inhibit := true, nmiLatch := nmiAfter s t } ∧ DataKept s t ∧
        OutsideKept s t := by
  obtain ⟨t, runs, regs, advanced, ccr, rest⟩ := completes_of_writeCcr runs (fieldPK_withUpper12 _ _) len
  refine ⟨t, runs, regs, advanced, fun k h4 h16 => ?_, rest⟩
  rw [ccr k h4 h16, getLsbD_withUpper12, if_neg (Nat.not_lt.mpr h4)]

/-- Settles O48: each write of the CCR by the word it takes; TAP's keeps the low byte. -/
theorem conditionCodeTransfers : Obligations.ConditionCodeTransfers := by
  intro s jjkk c
  refine ⟨?writes, ?tpa, ?tpd⟩
  case tpa | tpd => exact .of_registers rfl rfl rfl rfl
  case writes =>
    simp only [List.forall_mem_cons, List.not_mem_nil, false_implies, implies_true, and_true]
    refine ⟨?andp, ?orp, ?tdp, ?tap⟩
    case andp | orp | tdp => exact completes_of_withUpper12 rfl rfl
    case tap => exact completes_of_writeCcr rfl (fieldPK_withUpper8 _ _) rfl

end Sys2Proof.Machine

/-! ### NOP, LPSTOP, WAI and BGND (46_index_stack_ccr.md R650 to R656) -/

namespace Sys2Proof.Machine

/-- A one-word instruction that changes latches or the run state only: `c` says them. -/
theorem completes_of_control {i : Instr} {s : State} {c : Control}
    (runs : exec i s = .next (({ s with ctl := c } : State).advance 2)) (len : i.length = 2) :
    Completes i s fun t =>
      RegsBecome s.reg t ∧ Advanced i s t ∧ CcrKept [] s t ∧ t.mac = s.mac ∧ t.ctl = c ∧ DataKept s t ∧
        OutsideKept s t := by
  have regs : RegsBecome s.reg ({ s with ctl := c } : State) := rfl
  have ccr : CcrKept [] s ({ s with ctl := c } : State) := .of_eq rfl
  refine ⟨_, runs, regs.advance 2, ?_, ccr.of_withPK rfl, rfl, rfl, .of_mem rfl, rfl, rfl⟩
  rw [Advanced, State.pkpc_advance, len]
  rfl

/-- Settles O49: LPSTOP by S, BGND by its enable; disabled, it is an illegal instruction (60_exceptions.md R772). -/
theorem stopWaitAndBackground : Obligations.StopWaitAndBackground := by
  intro s only
  refine ⟨.of_registers rfl rfl rfl rfl, fun goes => ?goes, fun stops => ?stops, completes_of_control rfl rfl,
    fun enabled => ?enabled, fun disabled _ ready => ?disabled⟩
  case goes => exact completes_of_control (if_pos goes) rfl
  case stops => exact completes_of_control (if_neg (Bool.eq_false_iff.mp stops)) rfl
  case enabled => exact completes_of_control (if_pos enabled) rfl
  case disabled => exact ⟨_, if_neg (Bool.eq_false_iff.mp disabled), State.takeSynchronous_spec ready⟩

end Sys2Proof.Machine

/-! ### PSHM (46_index_stack_ccr.md R618) -/

namespace Sys2Proof.Machine

/-! The cells of pushed words lie below one another: each is less than two bytes per word below the top one. -/

theorem lt_of_mem_stackCells (ws : List Word) (a : Addr) :
    ∀ e ∈ stackCells a ws, (a + 1 - e.1).toNat < 2 * ws.length := by
  induction ws generalizing a with
  | nil => simp [stackCells]
  | cons w ws ih =>
    simp only [stackCells, List.forall_mem_cons, List.length_cons]
    refine ⟨by bv_omega, by bv_omega, fun e he => ?_⟩
    have below := ih (a - 2) e he
    bv_omega

/-- The two bytes of a word are not among the cells of the words pushed after it. -/
theorem find?_stackCells_sub_two {ws : List Word} {a b : Addr} (few : ws.length < 2 ^ 18) (h : b = a ∨ b = a + 1) :
    (stackCells (a - 2) ws).find? (fun e => e.1 == b) = none := by
  rw [List.find?_eq_none]
  intro e he
  have below := lt_of_mem_stackCells ws (a - 2) e he
  rw [beq_iff_eq]
  rintro rfl
  rcases h with h | h <;> rw [h] at below <;> bv_omega

/-- A word pushed, and then the cells below it. -/
theorem StoresCells.cons {s t u : State} {a : Addr} {w : Word} {ws : List Word} (few : ws.length < 2 ^ 18)
    (plat : t.plat = s.plat) (first : StoresWord s t a w) (rest : StoresCells t u (stackCells (a - 2) ws)) :
    StoresCells s u (stackCells a (w :: ws)) := by
  intro b
  have writable : t.writable b = s.writable b := by rw [State.writable, plat]; rfl
  have next := add_one_ne a
  rw [rest b, first b, writable, stackCells, List.find?_cons, List.find?_cons]
  by_cases high : b = a
  · rw [find?_stackCells_sub_two few (.inl high)]
    subst high
    simp
  · by_cases low : b = a + 1
    · rw [find?_stackCells_sub_two few (.inr low)]
      have above : (a == a + 1) = false := beq_eq_false_iff_ne.mpr next.symm
      rw [low, above, beq_self_eq_true, if_neg (fun c => next c.1)]
      simp
    · rw [beq_eq_false_iff_ne.mpr (Ne.symm high), beq_eq_false_iff_ne.mpr (Ne.symm low)]
      simp only [high, low, false_and, if_false]

/-- Words pushed one after another. -/
def State.pushAll (s : State) (ws : List Word) : State := ws.foldl State.push16 s

theorem sub_two_sub_ofNat (a : Addr) (n : Nat) :
    a - 2 - BitVec.ofNat 20 (2 * n) = a - BitVec.ofNat 20 (2 * (n + 1)) := by
  rw [Nat.mul_succ, BitVec.ofNat_add]
  bv_omega

/-- What a sequence of pushes leaves (10_state.md R37, R38), if it is too short to wrap round to its own first cells. -/
theorem State.pushAll_spec (ws : List Word) (few : ws.length ≤ 2 ^ 18) (s : State) (hs : s.executing = true) :
    StoresCells s (s.pushAll ws) (stackCells s.sksp ws) ∧
      (s.pushAll ws).reg = s.reg.withS (s.sksp - BitVec.ofNat 20 (2 * ws.length)) ∧ (s.pushAll ws).mac = s.mac ∧
      ControlKept s (s.pushAll ws) ∧ OutsideKept s (s.pushAll ws) := by
  induction ws generalizing s with
  | nil =>
    refine ⟨fun _ => rfl, ?_, rfl, .refl s, rfl, rfl⟩
    simp [State.pushAll, Regs.withS, State.sksp]
  | cons w ws ih =>
    obtain ⟨first, reg, mac, ctl, out⟩ := s.push16_spec w hs
    obtain ⟨rest, reg', mac', ctl', out'⟩ := ih (Nat.le_of_lt few) (s.push16 w) (ctl.executing hs)
    rw [State.sksp_of_withS reg] at rest reg'
    refine ⟨StoresCells.cons few out.1 first rest, ?_, mac'.trans mac, ctl.trans ctl', out'.1.trans out.1,
      out'.2.trans out.2⟩
    rw [List.length_cons, ← sub_two_sub_ofNat]
    exact reg'.trans (by rw [reg]; rfl)

/-- The registers that a mask selects, in order: those not selected push nothing. -/
theorem foldl_pushIf (mask : Byte) (sel : List (Nat × Word)) (s : State) :
    sel.foldl (fun t e => t.pushIf mask e.1 e.2) s =
      s.pushAll (sel.filterMap fun e => if mask.getLsbD e.1 then some e.2 else none) := by
  rw [State.pushAll, List.foldl_filterMap]
  congr
  funext t e
  rw [State.pushIf]
  split <;> rfl

/-- Settles O46: PSHM is the sequence of pushes of the selected registers, at most seven. -/
theorem pushesMultiple : Obligations.PushesMultiple := by
  intro s mask hs ws
  have few : ws.length ≤ 2 ^ 18 := Nat.le_trans (List.length_filterMap_le _ _) (by simp)
  have runs : exec (.pshm mask) s = .next ((s.pushAll ws).advance 2) := by
    rw [← foldl_pushIf]
    rfl
  obtain ⟨cells, reg, mac, ctl, out⟩ := State.pushAll_spec ws few s hs
  generalize s.pushAll ws = t at *
  have regs : RegsBecome (s.reg.withS (s.sksp - BitVec.ofNat 20 (2 * ws.length))) t := by rw [RegsBecome, reg]
  have ccr : CcrKept [] s t := .of_eq (by rw [reg]; rfl)
  have pkpc : t.pkpc = s.pkpc := State.pkpc_congr (by rw [reg]; rfl) (by rw [reg]; rfl)
  refine ⟨_, runs, regs.advance 2, ?_, ccr.of_withPK rfl, mac, ctl, out, cells⟩
  rw [Advanced, State.pkpc_advance, pkpc]
  rfl

end Sys2Proof.Machine

/-! ### PULM (46_index_stack_ccr.md R622) -/

namespace Sys2Proof.Machine

/-! The fields of the CCR and of K put back as they were. -/

theorem withUpper12_self (c : Word) : withUpper12 c c = c :=
  ccr_ext fun k _ => by rw [getLsbD_withUpper12, ite_self]

/-- K written over the extension fields (10_state.md R55). -/
def Regs.withK (r : Regs) (v : Word) : Regs :=
  { r with ek := BitVec.extractLsb' 12 4 v, xk := BitVec.extractLsb' 8 4 v, yk := BitVec.extractLsb' 4 4 v,
           zk := BitVec.extractLsb' 0 4 v }

theorem extractLsb'_k (s : State) :
    BitVec.extractLsb' 12 4 s.k = s.reg.ek ∧ BitVec.extractLsb' 8 4 s.k = s.reg.xk ∧
      BitVec.extractLsb' 4 4 s.k = s.reg.yk ∧ BitVec.extractLsb' 0 4 s.k = s.reg.zk := by
  refine ⟨?ek, ?xk, ?yk, ?zk⟩
  all_goals
    apply BitVec.eq_of_getLsbD_eq
    intro i hi
    simp only [State.k, BitVec.getLsbD_extractLsb', BitVec.getLsbD_append]
    grind

/-- The registers that the mask selects among the first `k`. -/
def selectedBelow (mask : Byte) (k : Nat) : Nat := ((List.range k).filter fun j => mask.getLsbD j).length

theorem selectedBelow_succ (mask : Byte) (k : Nat) :
    selectedBelow mask (k + 1) = selectedBelow mask k + if mask.getLsbD k then 1 else 0 := by
  rw [selectedBelow, List.range_succ, List.filter_append, List.length_append]
  cases h : mask.getLsbD k <;> simp [selectedBelow, h]

theorem selectedBelow_le (mask : Byte) (k : Nat) : selectedBelow mask k ≤ k :=
  Nat.le_trans (List.length_filter_le _ _) (Nat.le_of_eq List.length_range)

/-- The slot of the word pulled after `n` others: upwards from SK : SP + 2. -/
def State.pullSlot (s : State) (n : Nat) : Addr := s.sksp + BitVec.ofNat 20 (2 * n + 2)

/-- Memory answers at the first eight slots. -/
theorem readable_pullSlot {s : State} (h : s.readableFrom (s.sksp + 2) 16 = true) {n : Nat} (hn : n ≤ 7) :
    s.readable (s.pullSlot n) = true ∧ s.readable (s.pullSlot n + 1) = true := by
  have all : ∀ k < 16, s.readable (s.sksp + 2 + BitVec.ofNat 20 k) = true := by
    simpa only [State.readableFrom, List.all_eq_true, List.mem_range] using h
  have high : s.sksp + 2 + BitVec.ofNat 20 (2 * n) = s.pullSlot n := by rw [State.pullSlot]; bv_omega
  have low : s.sksp + 2 + BitVec.ofNat 20 (2 * n + 1) = s.pullSlot n + 1 := by rw [State.pullSlot]; bv_omega
  exact ⟨high ▸ all _ (by omega), low ▸ all _ (by omega)⟩

/-- After `n` words were pulled from memory since `s`: the registers are those of `r`, but SK : SP, and the latches are
those of `c`, but that a bus cycle may have set the BKPT latch. -/
structure Pulled (s t : State) (n : Nat) (r : Regs) (c : Control) : Prop where
  reg : t.reg = r.withS (s.sksp + BitVec.ofNat 20 (2 * n))
  mac : t.mac = s.mac
  mem : t.mem = s.mem
  ctl : t.ctl = { c with bkptLatch := t.ctl.bkptLatch }
  out : OutsideKept s t

theorem Pulled.refl (s : State) : Pulled s s 0 s.reg s.ctl :=
  ⟨by simp [Regs.withS, State.sksp], rfl, rfl, rfl, rfl, rfl⟩

section
variable {s t : State} {n : Nat} {r : Regs} {c : Control}

theorem Pulled.sksp_add_two (p : Pulled s t n r c) : t.sksp + 2 = s.pullSlot n := by
  rw [State.sksp_of_withS p.reg, State.pullSlot]
  bv_omega

theorem Pulled.readable (p : Pulled s t n r c) (h : s.readableFrom (s.sksp + 2) 16 = true) (hn : n ≤ 7) :
    t.readable (t.sksp + 2) = true ∧ t.readable (t.sksp + 2 + 1) = true := by
  rw [p.sksp_add_two, State.readable, State.readable, p.out.1]
  exact readable_pullSlot h hn

/-- One more word: it is the one in the next slot, and SK : SP is there afterwards. -/
theorem Pulled.pull16 (p : Pulled s t n r c) (h : s.readableFrom (s.sksp + 2) 16 = true) (hn : n ≤ 7) :
    t.pull16.1 = s.dataWord (s.pullSlot n) ∧ Pulled s t.pull16.2 (n + 1) r c := by
  obtain ⟨r0, r1⟩ := p.readable h hn
  obtain ⟨value, reg, mac, mem, ctl, out⟩ := t.pull16_memory_spec r0 r1
  rw [p.sksp_add_two] at value reg
  refine ⟨?value, ?reg, mac.trans p.mac, mem.trans p.mem, ?ctl, out.1.trans p.out.1, out.2.trans p.out.2⟩
  case value => rw [value, State.dataWord, DataKept.of_mem p.mem, DataKept.of_mem p.mem]; rfl
  case reg => rw [reg, p.reg]; rfl
  case ctl => rw [ctl, p.ctl]

/-- A register other than the CCR: `put` writes it, `old` is its value. It takes the word of its slot if the mask
selects it, and keeps its value if not. -/
theorem Pulled.pullIf {mask : Byte} {k : Nat} {f : State → Word → State} {old : Word}
    (p : Pulled s t (selectedBelow mask k) r c) (h : s.readableFrom (s.sksp + 2) 16 = true) (put : Word → Regs → Regs)
    (same : put old r = r) (sets : ∀ u w, f u w = u.mapReg (put w) := by intros; rfl)
    (stack : ∀ w v, put w (r.withS v) = (put w r).withS v := by intros; rfl) (hk : k ≤ 7 := by decide) :
    Pulled s (t.pullIf mask k f) (selectedBelow mask (k + 1))
      (put (if mask.getLsbD k then s.dataWord (s.pullSlot (selectedBelow mask k)) else old) r) c := by
  rw [selectedBelow_succ, State.pullIf]
  cases mask.getLsbD k with
  | false => simpa only [Bool.false_eq_true, if_false, Nat.add_zero, same] using p
  | true =>
    obtain ⟨value, ⟨reg, mac, mem, ctl, out⟩⟩ := p.pull16 h (Nat.le_trans (selectedBelow_le mask k) hk)
    simp only [if_true, value, sets]
    exact ⟨by rw [State.mapReg, reg, stack], mac, mem, ctl, out⟩

end

theorem nmiAfter_self (s : State) : nmiAfter s s = s.ctl.nmiLatch := by
  simp [nmiAfter]

/-- PULM's first register: CCR[15:4], if the mask selects it. -/
def State.pullCcr (s : State) (mask : Byte) : State :=
  s.pullIf mask 0 fun t w => t.writeCcr (withUpper12 w t.reg.ccr)

/-- CCR[15:4] takes its word, and IRQ7's latch follows the write of IP (60_exceptions.md R723 (b)). -/
theorem Pulled.pullCcr (s : State) (mask : Byte) (h : s.readableFrom (s.sksp + 2) 16 = true) :
    Pulled s (s.pullCcr mask) (selectedBelow mask 1)
      { s.reg with ccr := withUpper12 (if mask.getLsbD 0 then s.dataWord (s.pullSlot 0) else s.reg.ccr) s.reg.ccr }
      { s.ctl with nmiLatch := nmiAfter s (s.pullCcr mask) } := by
  rw [selectedBelow_succ, State.pullCcr, State.pullIf]
  cases mask.getLsbD 0 with
  | false =>
    simp only [Bool.false_eq_true, if_false, withUpper12_self, nmiAfter_self]
    exact .refl s
  | true =>
    obtain ⟨value, pulled⟩ := (Pulled.refl s).pull16 h (Nat.zero_le 7)
    have ccr : s.pull16.2.reg.ccr = s.reg.ccr := by rw [pulled.reg]; rfl
    simp only [if_true, value, ccr]
    generalize s.pull16.2 = t at *
    obtain ⟨reg, mac, mem, ctl, out⟩ := t.writeCcr_spec (withUpper12 (s.dataWord (s.pullSlot 0)) s.reg.ccr)
    generalize t.writeCcr _ = u at *
    have edge : nmiAfter t u = nmiAfter s u := nmiAfter_congr (by rw [pulled.ctl]) (by rw [ccr]) rfl pulled.out.1
    exact ⟨by rw [reg, pulled.reg]; rfl, mac.trans pulled.mac, mem.trans pulled.mem,
      by rw [ctl, edge, pulled.ctl], out.1.trans pulled.out.1, out.2.trans pulled.out.2⟩

/-- A pull after which one word more is read and discarded (log entry 22). -/
theorem Pulled.completes {i : Instr} {s t : State} {n : Nat} {r : Regs} {c : Control} (p : Pulled s t n r c)
    (runs : exec i s = .next ((t.read16 (t.sksp + 2)).2.advance 2)) (len : i.length = 2) (pc : r.pc = s.reg.pc)
    (pk : fieldPK r.ccr = fieldPK s.reg.ccr) (h : s.readableFrom (s.sksp + 2) 16 = true) (hn : n ≤ 7) :
    Completes i s fun u =>
      RegsBecome (r.withS (s.sksp + BitVec.ofNat 20 (2 * n))) u ∧ Advanced i s u ∧ (∃ k, u.reg.ccr = withPK k r.ccr) ∧
        u.mac = s.mac ∧ u.ctl = { c with bkptLatch := u.ctl.bkptLatch } ∧ DataKept s u ∧ OutsideKept s u := by
  obtain ⟨r0, r1⟩ := p.readable h hn
  obtain ⟨kept, mem, -, ctl⟩ := t.read16_memory_spec (t.sksp + 2) r0 r1
  generalize (t.read16 (t.sksp + 2)).2 = u at *
  have reg := kept.reg.trans p.reg
  have regs : RegsBecome (r.withS (s.sksp + BitVec.ofNat 20 (2 * n))) u := by rw [RegsBecome, reg]
  have pkpc : u.pkpc = s.pkpc := State.pkpc_congr (by rw [reg]; exact pc) (by rw [reg]; exact pk)
  refine ⟨_, runs, regs.advance 2, ?advanced, ⟨_, by rw [State.reg_advance, reg]; rfl⟩, kept.mac.trans p.mac, ?ctl,
    .of_mem (mem.trans p.mem), kept.out.1.trans p.out.1, kept.out.2.trans p.out.2⟩
  case advanced => rw [Advanced, State.pkpc_advance, pkpc, len]
  case ctl => rw [State.advance_ctl, ctl, p.ctl]

/-- Settles O47: the CCR, then the other registers one after another, each at the next slot. -/
theorem pullsMultiple : Obligations.PullsMultiple := by
  intro s mask _ h count at' pick k
  have p1 := Pulled.pullCcr s mask h
  have p2 := p1.pullIf (f := State.setK) (old := s.k) h (fun w r => r.withK w)
    (by simp only [Regs.withK, extractLsb'_k])
  have p3 := p2.pullIf (f := State.setIZ) (old := s.reg.iz) h (fun w r => { r with iz := w }) rfl
  have p4 := p3.pullIf (f := State.setIY) (old := s.reg.iy) h (fun w r => { r with iy := w }) rfl
  have p5 := p4.pullIf (f := State.setIX) (old := s.reg.ix) h (fun w r => { r with ix := w }) rfl
  have p6 := p5.pullIf (f := State.setE) (old := s.reg.e) h (fun w r => { r with e := w }) rfl
  have p7 := p6.pullIf (f := State.setD) (old := s.d) h (fun w r => r.withD w)
    (by simp only [Regs.withD, State.d, hi_word, lo_word]; rfl)
  obtain ⟨t, runs, regs, advanced, ⟨pk, ccr⟩, mac, ctl, data, out⟩ :=
    p7.completes (i := .pulm mask) rfl rfl rfl (fieldPK_withUpper12 _ _) h (selectedBelow_le mask 7)
  have edge : nmiAfter s (s.pullCcr mask) = nmiAfter s t :=
    nmiAfter_congr rfl rfl (by rw [ccr, p1.reg, fieldIP_withPK]; rfl) rfl
  refine ⟨t, runs, regs, advanced, fun n h4 _ => ?_, mac, edge ▸ ctl, data, out⟩
  rw [ccr, getLsbD_withPK, if_neg (Nat.not_lt.mpr h4)]
  exact (getLsbD_withUpper12 _ _ _).trans (if_neg (Nat.not_lt.mpr h4))

end Sys2Proof.Machine

/-! ### The MAC unit: the numbers (47_dsp.md R660, R661, R665) -/

namespace Sys2Proof.Machine

/-- EV by the number that AM holds (47_dsp.md R661, Table 11-1). -/
theorem evOf_eq (x : Acc) : evOf x = decide (x.toInt < -2 ^ 31 ∨ 2 ^ 31 ≤ x.toInt) := by
  have top : (BitVec.extractLsb' 31 5 x).toNat = x.toNat / 2 ^ 31 := by
    have := x.isLt
    rw [BitVec.extractLsb'_toNat, Nat.shiftRight_eq_div_pow]
    omega
  have zero : BitVec.extractLsb' 31 5 x = 0 ↔ x.toNat / 2 ^ 31 = 0 := by rw [← top]; bv_omega
  have ones : BitVec.extractLsb' 31 5 x = 31 ↔ x.toNat / 2 ^ 31 = 31 := by rw [← top]; bv_omega
  rw [Bool.eq_iff_iff]
  simp only [evOf, Bool.and_eq_true, bne_iff_ne, ne_eq, zero, ones, decide_eq_true_iff,
    BitVec.toInt_eq_toNat_cond]
  have := x.isLt
  split <;> omega

/-- A sign bit overflow of an addition (47_dsp.md R662): the exact sum does not fit 36 bits. -/
theorem sign_overflow_eq (a b : Acc) : (a.msb == b.msb && (a + b).msb != a.msb) =
    decide (a.toInt + b.toInt < -2 ^ 35 ∨ 2 ^ 35 ≤ a.toInt + b.toInt) := by
  rw [bne, ← BitVec.saddOverflow_eq, BitVec.saddOverflow, Bool.or_comm, ← Bool.decide_or]

theorem add_eq_ofInt {w : Nat} (a b : BitVec w) : a + b = BitVec.ofInt w (a.toInt + b.toInt) := by
  rw [BitVec.ofInt_add, BitVec.ofInt_toInt, BitVec.ofInt_toInt]

theorem toInt_sext36 {w : Nat} (hw : w ≤ 36) (v : BitVec w) : (sext36 v).toInt = v.toInt :=
  BitVec.toInt_signExtend_of_le hw

/-- A word above sixteen zero bits. -/
theorem toInt_long_zero (e : Word) : (long e 0).toInt = e.toInt * 2 ^ 16 := by
  rw [long, BitVec.toInt_append, Int.mul_comm]
  simp

theorem shiftLeft_one_eq_add (a : Acc) : a <<< 1 = a + a := by
  rw [BitVec.shiftLeft_eq_mul_twoPow]
  have two : BitVec.twoPow 36 1 = 2 := by decide
  rw [two]
  bv_omega

theorem sshiftRight_one_eq (a : Acc) : a.sshiftRight 1 = BitVec.ofInt 36 (a.toInt / 2) := by
  rw [BitVec.sshiftRight, Int.shiftRight_eq_div_pow]
  rfl

/-- The shift by one place keeps the sign. -/
theorem msb_sshiftRight_one (a : Acc) : (a.sshiftRight 1).msb = a.msb := BitVec.msb_sshiftRight

/-- The addend of MAC and RMAC is the doubled product as it is: 36 bits hold even the square of -1, which 32 bits do
not (47_dsp.md R665). -/
theorem macProduct_eq (h i : Word) :
    (macProduct h i).1 = BitVec.ofInt 32 (h.toInt * i.toInt * 2) ∧
      (macProduct h i).2.1.toInt = h.toInt * i.toInt * 2 ∧
      (macProduct h i).2.2 = decide (h = 0x8000 ∧ i = 0x8000) := by
  rw [macProduct]
  split
  case isTrue square =>
    obtain ⟨rfl, rfl⟩ := square
    decide
  case isFalse other =>
    refine ⟨rfl, ?_, (decide_eq_false other).symm⟩
    have fits := toInt_fractional_product other
    rw [ofInt_shiftLeft_one, Int.mul_comm 2] at fits
    exact (toInt_sext36 (by decide) _).trans fits

/-- Convergent rounding goes up by one at bit 16: the part below is more than half of it, or just half and bit 16 is odd
(47_dsp.md R680). -/
def roundsUp (a : Acc) : Bool :=
  decide (2 ^ 15 < a.toNat % 2 ^ 16) || decide (a.toNat % 2 ^ 16 = 2 ^ 15) && a.getLsbD 16

/-- The value that AM is rounded to, exactly. -/
def roundedExact (a : Acc) : Int := a.toInt + if roundsUp a then 2 ^ 16 else 0

theorem roundAM_eq_add (a : Acc) : roundAM a = a + if roundsUp a then 0x10000 else 0 := by
  have field : (BitVec.extractLsb' 0 16 a).toNat = a.toNat % 2 ^ 16 := by simp
  have rounds : (0x8000#16 < BitVec.extractLsb' 0 16 a ∨
      (BitVec.extractLsb' 0 16 a = 0x8000#16 ∧ a.getLsbD 16 = true)) ↔ roundsUp a = true := by
    rw [BitVec.lt_def, ← BitVec.toNat_inj, field]
    simp [roundsUp]
  simp only [roundAM, rounds]
  split
  · rfl
  · exact (BitVec.add_zero a).symm

theorem roundAM_eq (a : Acc) : roundAM a = BitVec.ofInt 36 (roundedExact a) := by
  rw [roundAM_eq_add, add_eq_ofInt, roundedExact]
  split <;> rfl

/-- Rounding overflows upwards only: a positive AM becomes negative (47_dsp.md R662). -/
theorem rounding_overflow_eq (a : Acc) : (!a.msb && (roundAM a).msb) = decide (2 ^ 35 ≤ roundedExact a) := by
  have sum := sign_overflow_eq a (if roundsUp a then 0x10000 else 0)
  have value : (if roundsUp a then 0x10000 else 0 : Acc).toInt = if roundsUp a then 2 ^ 16 else 0 := by split <;> rfl
  have positive : (if roundsUp a then 0x10000 else 0 : Acc).msb = false := by split <;> rfl
  have low : -2 ^ 35 ≤ roundedExact a := by
    have := a.le_toInt
    rw [roundedExact]
    split <;> omega
  have signs : ∀ A R : Bool, (!A && R) = (A == false && R != A) := by decide
  rw [← roundAM_eq_add, value, positive] at sum
  rw [signs, sum, decide_eq_decide]
  exact or_iff_right (Int.not_lt.mpr low)

end Sys2Proof.Machine

/-! ### The MAC unit: flags, latches and registers at the end of an instruction -/

namespace Sys2Proof.Machine

section
variable {bits : List Nat} {P flags : Word → Prop} {c d : Word} {v : Bool}

theorem CcrUpdate.withMV (u : CcrUpdate bits P c d) (h : ∀ f, P f → flags (withMV v f)) :
    CcrUpdate (14 :: bits) flags c (withMV v d) := u.withCcrBit (by decide) (by decide) h

theorem CcrUpdate.withEV (u : CcrUpdate bits P c d) (h : ∀ f, P f → flags (withEV v f)) :
    CcrUpdate (12 :: bits) flags c (withEV v d) := u.withCcrBit (by decide) (by decide) h

end

/-- MV and EV replaced, in the order of the model. -/
theorem CcrUpdate.withEV_withMV (mv ev : Bool) (c : Word) :
    CcrUpdate [14, 12] (fun f => flagMV f = mv ∧ flagEV f = ev) c (Machine.withEV ev (Machine.withMV mv c)) :=
  (((CcrUpdate.unchanged c).withMV fun f _ => flagMV_withMV mv f).withEV
    (flags := fun f => flagMV f = mv ∧ flagEV f = ev) fun f hmv => by simpa using hmv).of_subset (by simp)

/-- The flags hold of the updated CCR itself, for an instruction that does not move PK : PC. -/
theorem CcrUpdate.holds {bits : List Nat} {flags : Word → Prop} {c d : Word} (u : CcrUpdate bits flags c d) :
    flags d := withPK_fieldPK d ▸ u.flags (fieldPK d)

theorem withMV_flagMV (c : Word) : withMV (flagMV c) c = c :=
  ccr_ext fun k _ => by
    rw [getLsbD_withMV]
    split
    case isTrue h => rw [h]; rfl
    case isFalse => rfl

/-- Whether an exact result does not fit AM (47_dsp.md R662). -/
def overflowsAM (exact : Int) : Bool := decide (exact < -2 ^ 35 ∨ 2 ^ 35 ≤ exact)

/-- Sign bit overflow: MV is set, and SL takes `top` when MV becomes set (47_dsp.md R662). -/
theorem State.noteSignOverflow_eq (s : State) (ovf top : Bool) :
    s.noteSignOverflow ovf top =
      { s with
        reg := { s.reg with ccr := withMV (flagMV s.reg.ccr || ovf) s.reg.ccr },
        mac := { s.mac with sl := if ovf && !flagMV s.reg.ccr then top else s.mac.sl } } := by
  rw [State.noteSignOverflow]
  cases ovf with
  | false => simp [withMV_flagMV]
  | true =>
    cases mv : flagMV s.reg.ccr with
    | false => simp [State.setCcr, State.setSL]
    | true => simp [State.setCcr]

/-- The MAC unit after an operation on AM whose exact result is `exact`; `c` is the CCR before (47_dsp.md R662). -/
def Mac.accumulated (m : Mac) (c : Word) (exact : Int) : Mac :=
  { m with
    am := BitVec.ofInt 36 exact,
    sl := if overflowsAM exact && !flagMV c then (BitVec.ofInt 36 exact).msb else m.sl }

/-- The CCR after it: MV stays set, EV follows the new AM (47_dsp.md R661, R662). -/
def accumulatedCcr (exact : Int) (c : Word) : Word :=
  withEV (evOf (BitVec.ofInt 36 exact)) (withMV (flagMV c || overflowsAM exact) c)

/-- The flags that an operation on AM leaves. -/
def AccumulatedFlags (exact : Int) (c f : Word) : Prop :=
  flagMV f = (flagMV c || overflowsAM exact) ∧ flagEV f = evOf (BitVec.ofInt 36 exact)

theorem CcrUpdate.accumulatedCcr (exact : Int) (c : Word) :
    CcrUpdate [14, 12] (AccumulatedFlags exact c) c (accumulatedCcr exact c) := .withEV_withMV _ _ c

/-- An addition to AM, by the exact sum. -/
theorem State.accumulate_eq (s : State) {b : Acc} {n : Int} (hb : b.toInt = n) :
    s.accumulate b =
      { s with
        reg := { s.reg with ccr := accumulatedCcr (s.mac.am.toInt + n) s.reg.ccr },
        mac := s.mac.accumulated s.reg.ccr (s.mac.am.toInt + n) } := by
  rw [← hb, State.accumulate, State.noteSignOverflow_eq, sign_overflow_eq, add_eq_ofInt]
  rfl

/-- The claim on AM, MV, EV and SL is about the MAC unit and the CCR only. -/
theorem Accumulated.of_mac {s t : State} {exact : Int} (flags : AccumulatedFlags exact s.reg.ccr t.reg.ccr)
    (am : t.mac.am = (s.mac.accumulated s.reg.ccr exact).am)
    (sl : t.mac.sl = (s.mac.accumulated s.reg.ccr exact).sl) : Accumulated s t exact := by
  obtain ⟨mv, ev⟩ := flags
  refine ⟨am, ?_, mv, ?_⟩
  · rw [ev, am, evOf_eq]; rfl
  · rw [sl, am, Mac.accumulated, BitVec.msb_eq_getLsbD_last]; rfl

/-- Registers, PK : PC and CCR at the end of an instruction that leads to `u` before PK : PC moves on. -/
theorem registers_after {i : Instr} {s u : State} {r : Regs} {bits : List Nat} {flags : Word → Prop} {n : Nat}
    (regs : u.reg = { r with pc := s.reg.pc, ccr := u.reg.ccr }) (ccr : CcrUpdate bits flags s.reg.ccr u.reg.ccr)
    (len : i.length = n) :
    RegsBecome r (u.advance n) ∧ Advanced i s (u.advance n) ∧ CcrKept bits s (u.advance n) ∧
      flags (u.advance n).reg.ccr :=
  (BusKept.refl s).registers_after (f := fun _ => u.reg) regs ccr len

/-- An inherent instruction without a bus access, by its registers and its MAC unit. -/
theorem ComputesMac.of_registers {i : Instr} {s : State} {r q : Regs} {m : Mac} {bits : List Nat}
    {flags : Word → Prop} (runs : exec i s = .next (({ s with reg := q, mac := m } : State).advance 2))
    (regs : q = { r with pc := s.reg.pc, ccr := q.ccr }) (ccr : CcrUpdate bits flags s.reg.ccr q.ccr)
    (len : i.length = 2) : ComputesMac i s r m bits flags :=
  have ⟨become, advanced, keeps, holds⟩ := registers_after (u := { s with reg := q, mac := m }) regs ccr len
  ⟨_, runs, become, rfl, advanced, keeps, holds, rfl, .of_mem rfl, rfl, rfl⟩

end Sys2Proof.Machine

/-! ### Loads and transfers of the MAC unit (47_dsp.md R674, R675, R682 to R685) -/

namespace Sys2Proof.Machine

/-- HR and IR are the words at XK : IX and YK : IY; nothing else changes but latches (47_dsp.md R675). -/
theorem State.loadHRIR_spec (s : State) (hs : s.executing = true) :
    let t := s.loadHRIR
    t.reg = s.reg ∧ t.mac = { s.mac with hr := t.mac.hr, ir := t.mac.ir } ∧ t.mem = s.mem ∧ ControlKept s t ∧
      OutsideKept s t ∧ (s.readableFrom s.xkix 2 = true → t.mac.hr = s.dataWord s.xkix) ∧
      (s.readableFrom s.ykiy 2 = true → t.mac.ir = s.dataWord s.ykiy) := by
  obtain ⟨first, mem, hr⟩ := s.read16_spec s.xkix hs
  obtain ⟨second, mem', ir⟩ := (s.read16 s.xkix).2.read16_spec s.ykiy (first.executing hs)
  rw [State.loadHRIR]
  generalize s.read16 s.xkix = p at *
  generalize p.2.read16 s.ykiy = q at *
  have kept := first.trans second
  refine ⟨kept.reg, ?mac, mem'.trans mem, kept.ctl, kept.out, fun h => ?hr, fun h => ?ir⟩
  case mac => rw [← kept.mac]; rfl
  case hr =>
    obtain ⟨r0, r1⟩ := readable_of_readableFrom_two h
    exact hr r0 r1
  case ir =>
    obtain ⟨r0, r1⟩ := readable_of_readableFrom_two h
    refine (ir ((first.readable _).trans r0) ((first.readable _).trans r1)).trans ?_
    simp only [State.dataWord, DataKept.of_mem mem _]

/-- AM replaced by `v`, MV and EV cleared: TEM, TEDM and CLRM (47_dsp.md R674, R683, R684). -/
theorem ComputesMac.of_setAM {i : Instr} {s : State} {v : Acc}
    (runs : exec i s = .next (((s.setAM v).setCcr (withEV false (withMV false s.reg.ccr))).advance 2))
    (len : i.length = 2) :
    ComputesMac i s s.reg { s.mac with am := v } [14, 12] fun f => flagMV f = false ∧ flagEV f = false :=
  .of_registers runs rfl (.withEV_withMV _ _ _) len

theorem hiWord_extractLsb' (a : Acc) : hiWord (BitVec.extractLsb' 0 32 a) = BitVec.extractLsb' 16 16 a := by
  simp [hiWord]

theorem loWord_extractLsb' (a : Acc) : loWord (BitVec.extractLsb' 0 32 a) = BitVec.extractLsb' 0 16 a := by
  simp [loWord]

/-- Settles O50: each transfer says the registers and the MAC unit that it leaves; LDHI loads from memory. -/
theorem macTransfers : Obligations.MacTransfers := by
  intro s am cleared
  refine ⟨?tdmsk, ?tem, ?tedm, ?clrm, ?tmxed, fun hs => ?ldhi⟩
  case tdmsk =>
    have runs : exec .tdmsk s =
        .next (({ s with mac := { s.mac with xmsk := hi s.d, ymsk := lo s.d } } : State).advance 2) := rfl
    rw [State.d, hi_word, lo_word] at runs
    exact .of_registers runs rfl (.unchanged _) rfl
  case tem => exact toInt_long_zero s.reg.e ▸ .of_setAM rfl rfl
  case tedm => exact .of_setAM rfl rfl
  case clrm => exact .of_setAM rfl rfl
  case tmxed =>
    rw [← hiWord_extractLsb', ← loWord_extractLsb']
    exact .of_registers rfl rfl (.unchanged _) rfl
  case ldhi =>
    obtain ⟨reg, mac, mem, ctl, out, hr, ir⟩ := s.loadHRIR_spec hs
    obtain ⟨become, advanced, keeps, -⟩ :=
      registers_after (i := .ldhi) (r := s.reg) (n := 2) (by rw [reg]) (.of_eq (congrArg Regs.ccr reg)) rfl
    exact ⟨_, rfl, become, advanced, keeps, mac, fun hx hy => ⟨hr hx, ir hy⟩, ctl, .of_mem mem, out⟩

end Sys2Proof.Machine

/-! ### Arithmetic on AM (47_dsp.md R670 to R673) -/

namespace Sys2Proof.Machine

/-- Half of AM fits AM (47_dsp.md R673). -/
theorem overflowsAM_half (a : Acc) : overflowsAM (a.toInt / 2) = false := by
  have low := a.le_toInt
  have high := a.toInt_lt
  rw [overflowsAM, decide_eq_false_iff_not]
  omega

/-- An exact result that fits AM leaves SL and MV alone (47_dsp.md R662). -/
theorem accumulated_of_fits {exact : Int} (fits : overflowsAM exact = false) (m : Mac) (c : Word) :
    m.accumulated c exact = { m with am := BitVec.ofInt 36 exact } ∧
      accumulatedCcr exact c = withEV (evOf (BitVec.ofInt 36 exact)) c := by
  rw [Mac.accumulated, accumulatedCcr, fits, Bool.or_false, withMV_flagMV]
  exact ⟨rfl, rfl⟩

/-- The state after a shift of AM whose exact result is `exact`: `n` and `carry` are N and C. -/
def State.shiftedAM (s : State) (exact : Int) (n carry : Bool) : State :=
  { s with
    reg := { s.reg with ccr := withC carry (withN n (accumulatedCcr exact s.reg.ccr)) },
    mac := s.mac.accumulated s.reg.ccr exact }

/-- ASLM doubles AM: what is shifted out of AM is the overflow of AM plus AM (47_dsp.md R662, R672). -/
theorem exec_aslm (s : State) :
    let exact := 2 * s.mac.am.toInt
    exec .aslm s = .next ((s.shiftedAM exact (BitVec.ofInt 36 exact).msb s.mac.am.msb).advance 2) := by
  intro exact
  have sum : s.mac.am + s.mac.am = BitVec.ofInt 36 exact := by rw [add_eq_ofInt, ← Int.two_mul]
  have shift : s.mac.am <<< 1 = BitVec.ofInt 36 exact := (shiftLeft_one_eq_add _).trans sum
  have overflow : ((BitVec.ofInt 36 exact).msb != s.mac.am.msb) = overflowsAM exact := by
    have carry := sign_overflow_eq s.mac.am s.mac.am
    rwa [beq_self_eq_true, Bool.true_and, sum, ← Int.two_mul] at carry
  show execAslm s = _
  rw [execAslm]
  simp only [State.noteSignOverflow_eq, shift, overflow]
  rfl

/-- ASRM halves AM (47_dsp.md R673). -/
theorem exec_asrm (s : State) :
    exec .asrm s = .next ((s.shiftedAM (s.mac.am.toInt / 2) s.mac.am.msb (s.mac.am.getLsbD 0)).advance 2) := by
  obtain ⟨mac, ccr⟩ := accumulated_of_fits (overflowsAM_half s.mac.am) s.mac s.reg.ccr
  rw [State.shiftedAM, mac, ccr, ← sshiftRight_one_eq, ← msb_sshiftRight_one]
  rfl

/-- What the operations on AM leave, by the exact result (47_dsp.md R661, R662). -/
theorem ComputesMac.accumulates {i : Instr} {s : State} {exact : Int} {bits : List Nat} {flags : Word → Prop}
    (h : ComputesMac i s s.reg (s.mac.accumulated s.reg.ccr exact) bits
      fun f => AccumulatedFlags exact s.reg.ccr f ∧ flags f) :
    Completes i s fun t =>
      Accumulated s t exact ∧ flags t.reg.ccr ∧ CcrKept bits s t ∧ Advanced i s t ∧ RegsBecome s.reg t ∧
        t.mac = { s.mac with am := t.mac.am, sl := t.mac.sl } ∧ t.ctl = s.ctl ∧ DataKept s t ∧ OutsideKept s t := by
  obtain ⟨t, runs, become, mac, advanced, keeps, ⟨acc, holds⟩, rest⟩ := h
  exact ⟨t, runs, .of_mac acc (by rw [mac]) (by rw [mac]), holds, keeps, advanced, become, by rw [mac]; rfl, rest⟩

/-- ACE and ACED: an addend whose value is `n`. -/
theorem ComputesMac.of_accumulate {i : Instr} {s : State} {b : Acc} {n : Int} (hb : b.toInt = n)
    (runs : exec i s = .next ((s.accumulate b).advance 2)) (len : i.length = 2) :
    ComputesMac i s s.reg (s.mac.accumulated s.reg.ccr (s.mac.am.toInt + n)) [14, 12]
      fun f => AccumulatedFlags (s.mac.am.toInt + n) s.reg.ccr f ∧ anyFlags f :=
  have ccr := (CcrUpdate.accumulatedCcr (s.mac.am.toInt + n) s.reg.ccr).imp
    (Q := fun f => AccumulatedFlags (s.mac.am.toInt + n) s.reg.ccr f ∧ anyFlags f) fun _ acc => ⟨acc, trivial⟩
  .of_registers (runs.trans (by rw [s.accumulate_eq hb])) rfl ccr len

/-- ASLM and ASRM: N and C as well. -/
theorem ComputesMac.of_shiftedAM {i : Instr} {s : State} {exact : Int} {n carry : Bool}
    (runs : exec i s = .next ((s.shiftedAM exact n carry).advance 2)) (len : i.length = 2) :
    ComputesMac i s s.reg (s.mac.accumulated s.reg.ccr exact) [14, 12, 11, 8]
      fun f => AccumulatedFlags exact s.reg.ccr f ∧ flagN f = n ∧ flagC f = carry :=
  have sign := (CcrUpdate.accumulatedCcr exact s.reg.ccr).withN (v := n)
    (flags := fun f => AccumulatedFlags exact s.reg.ccr f ∧ flagN f = n)
    fun f acc => by simpa [AccumulatedFlags] using acc
  have both := sign.withC (v := carry)
    (flags := fun f => AccumulatedFlags exact s.reg.ccr f ∧ flagN f = n ∧ flagC f = carry)
    fun f acc => by simpa [AccumulatedFlags, and_assoc] using acc
  .of_registers runs rfl (both.of_subset (by simp)) len

/-- An unchanged MV is one bit kept more. -/
theorem CcrKept.of_flagMV {bits : List Nat} {s t : State} (h : CcrKept (14 :: bits) s t)
    (mv : flagMV t.reg.ccr = flagMV s.reg.ccr) : CcrKept bits s t := fun k h4 h16 hk => by
  by_cases k14 : k = 14
  · rw [k14]
    exact mv
  · exact h k h4 h16 (by simp [k14, hk])

/-- Settles O51: each operation leaves AM, EV, MV and SL as its exact value says. -/
theorem accumulatorArithmetic : Obligations.AccumulatorArithmetic := by
  intro s am kept
  refine ⟨?additions, ?aslm, ?asrm⟩
  case additions =>
    simp only [List.forall_mem_cons, List.not_mem_nil, false_implies, implies_true, and_true]
    refine ⟨?ace, ?aced⟩
    case ace =>
      obtain ⟨t, runs, acc, -, rest⟩ := (ComputesMac.of_accumulate (i := .ace) (s := s)
        ((toInt_sext36 (by decide) _).trans (toInt_long_zero _)) rfl rfl).accumulates
      exact ⟨t, runs, acc, rest⟩
    case aced =>
      obtain ⟨t, runs, acc, -, rest⟩ :=
        (ComputesMac.of_accumulate (i := .aced) (s := s) (toInt_sext36 (by decide) _) rfl rfl).accumulates
      exact ⟨t, runs, acc, rest⟩
  case aslm =>
    obtain ⟨t, runs, acc, ⟨n, c⟩, rest⟩ := (ComputesMac.of_shiftedAM (exec_aslm s) rfl).accumulates
    rw [← acc.1] at n
    exact ⟨t, runs, acc, n.trans (BitVec.msb_eq_getLsbD_last _), c.trans (BitVec.msb_eq_getLsbD_last _), rest⟩
  case asrm =>
    obtain ⟨t, runs, acc, ⟨n, c⟩, keeps, rest⟩ := (ComputesMac.of_shiftedAM (exec_asrm s) rfl).accumulates
    have mv : flagMV t.reg.ccr = flagMV s.reg.ccr := by
      obtain ⟨-, -, mv, -⟩ := acc
      exact mv.trans (by rw [show decide _ = false from overflowsAM_half am, Bool.or_false])
    exact ⟨t, runs, acc, n.trans (BitVec.msb_eq_getLsbD_last _), c, keeps.of_flagMV mv, rest⟩

end Sys2Proof.Machine

/-! ### Transfers out of AM (47_dsp.md R663, R680, R681) -/

namespace Sys2Proof.Machine

theorem withEV_flagEV (c : Word) : withEV (flagEV c) c = c :=
  ccr_ext fun k _ => by
    rw [getLsbD_withEV]
    split
    case isTrue h => rw [h]; rfl
    case isFalse => rfl

/-- What TMER and TMET give E: the saturation value by the MAC unit and the CCR `f`, or `v` (47_dsp.md R663). -/
def saturatedWord (m : Mac) (f v : Word) : Word :=
  if flagSM f && (flagEV f || flagMV f) then saturation (flagMV f) m.sl (m.am.getLsbD 35) else v

theorem State.saturated_eq (s : State) (v : Word) : s.saturated v = saturatedWord s.mac s.reg.ccr v := by
  rw [State.saturated, BitVec.msb_eq_getLsbD_last]
  rfl

theorem saturatedWord_congr {f g : Word} (mv : flagMV f = flagMV g) (ev : flagEV f = flagEV g)
    (sm : flagSM f = flagSM g) (m : Mac) (v : Word) : saturatedWord m f v = saturatedWord m g v := by
  rw [saturatedWord, saturatedWord, mv, ev, sm]

/-- The CCR that decides about saturation in TMER: MV and EV are set or stay (47_dsp.md R680, log entry 29). -/
def roundedCcr (a : Acc) (c : Word) : Word :=
  withEV (flagEV c || evOf (roundAM a)) (withMV (flagMV c || decide (2 ^ 35 ≤ roundedExact a)) c)

/-- The MAC unit after TMER: an overflow, which is upwards, latches 1 in SL (47_dsp.md R662). -/
def Mac.rounded (m : Mac) (c : Word) : Mac :=
  { m with sl := if decide (2 ^ 35 ≤ roundedExact m.am) && !flagMV c then true else m.sl }

/-- The word that TMER gives E (47_dsp.md R680). -/
def State.roundedWord (s : State) : Word :=
  saturatedWord (s.mac.rounded s.reg.ccr) (roundedCcr s.mac.am s.reg.ccr) (BitVec.extractLsb' 16 16 (roundAM s.mac.am))

theorem exec_tmer (s : State) :
    exec .tmer s = .next (({ s with
      reg := { s.reg with e := s.roundedWord, ccr := setNZ s.roundedWord (roundedCcr s.mac.am s.reg.ccr) },
      mac := s.mac.rounded s.reg.ccr } : State).advance 2) := by
  have overflow := rounding_overflow_eq s.mac.am
  have latch (b : Bool) :
      (if decide (2 ^ 35 ≤ roundedExact s.mac.am) && b then (roundAM s.mac.am).msb else s.mac.sl) =
        if decide (2 ^ 35 ≤ roundedExact s.mac.am) && b then true else s.mac.sl := by
    rw [← overflow]
    cases (roundAM s.mac.am).msb <;> simp
  have extend (d : Word) : (if evOf (roundAM s.mac.am) then withEV true d else d) =
      withEV (flagEV d || evOf (roundAM s.mac.am)) d := by
    cases evOf (roundAM s.mac.am) <;> simp [withEV_flagEV]
  show execTmer s = _
  simp only [execTmer, overflow, State.noteSignOverflow_eq, latch, extend, flagEV_withMV, State.saturated_eq]
  rfl

/-- The CCR after TMER: MV and EV of the CCR that decided, N and Z of the word that E takes. -/
theorem CcrUpdate.setNZ_roundedCcr (e : Word) (a : Acc) (c : Word) :
    CcrUpdate [14, 12, 11, 10]
      (fun f => NZOf e f ∧ flagMV f = flagMV (roundedCcr a c) ∧ flagEV f = flagEV (roundedCcr a c) ∧
        flagSM f = flagSM (roundedCcr a c)) c (Machine.setNZ e (roundedCcr a c)) where
  pk := by simp [Machine.setNZ, roundedCcr]
  kept k h4 h16 hk := by
    simp only [List.mem_cons, List.not_mem_nil, or_false, not_or] at hk
    obtain ⟨hMV, hEV, hN, hZ⟩ := hk
    rw [getLsbD_setNZ, if_neg hN, if_neg hZ, roundedCcr, getLsbD_withEV, if_neg hEV, getLsbD_withMV, if_neg hMV]
  flags p := ⟨(CcrUpdate.setNZ e _).flags p, by simp [Machine.setNZ], by simp [Machine.setNZ],
    by simp [Machine.setNZ]⟩

/-- Settles O52: the saturation of TMER is decided by MV, EV and SL as the rounding left them. -/
theorem transfersRounded : Obligations.TransfersRounded := by
  intro s am low up exact temp overflow result
  refine ⟨?tmer, ?tmet⟩
  case tmer =>
    have ⟨t, runs, become, mac, advanced, keeps, ⟨nz, mv, ev, sm⟩, rest⟩ :=
      ComputesMac.of_registers (r := { s.reg with e := s.roundedWord }) (exec_tmer s) rfl
        (.setNZ_roundedCcr s.roundedWord am s.reg.ccr) rfl
    have e : s.roundedWord = result t.reg.ccr t.mac.sl (BitVec.extractLsb' 16 16 temp) := by
      rw [State.roundedWord, saturatedWord_congr mv.symm ev.symm sm.symm, roundAM_eq, mac]
      rfl
    rw [e] at become nz
    refine ⟨t, runs, become, nz, ?mv, ?ev, mac, keeps, advanced, rest⟩
    case mv => rw [mv, roundedCcr, flagMV_withEV, flagMV_withMV]; rfl
    case ev => rw [ev, roundedCcr, flagEV_withEV, evOf_eq, roundAM_eq]; rfl
  case tmet =>
    intro e
    have word : s.saturated (BitVec.extractLsb' 16 16 am) = e := s.saturated_eq _
    refine .of_mapReg (f := fun r => { r with e := e, ccr := setNZ e r.ccr }) ?_ rfl (.setNZ e _) fun _ => rfl
    rw [← word]
    rfl

end Sys2Proof.Machine

/-! ### Modulo addressing (47_dsp.md R664) -/

namespace Sys2Proof.Machine

/-- The right-justified masks, by the number of their ones. -/
theorem exists_ones_of_rightJustified :
    ∀ m : Byte, m &&& (m + 1) = 0 → ∃ k ≤ 8, m = BitVec.ofNat 8 (2 ^ k - 1) := by decide

/-- A number in a buffer whose size divides the bank. -/
theorem toNat_emod_two_pow {k : Nat} (hk : k ≤ 16) (n : Int) :
    (n % ((2 ^ k : Nat) : Int)).toNat = (BitVec.ofInt 16 n).toNat % 2 ^ k := by
  have divides : ((2 ^ k : Nat) : Int) ∣ ((2 ^ 16 : Nat) : Int) := Int.natCast_dvd_natCast.mpr (Nat.pow_dvd_pow 2 hk)
  have nonneg : 0 ≤ n % ((2 ^ 16 : Nat) : Int) := Int.emod_nonneg _ (by decide)
  rw [← Int.emod_emod_of_dvd n divides, BitVec.toNat_ofInt, Int.toNat_emod nonneg (Int.natCast_nonneg _),
    Int.toNat_natCast]

/-- The part above bit `k` of one word with the part below it of another. -/
theorem getLsbD_above_below {k i : Nat} (x y : Word) (hi : i < 16) :
    (BitVec.ofNat 16 (x.toNat / 2 ^ k * 2 ^ k + y.toNat % 2 ^ k)).getLsbD i =
      if i < k then y.getLsbD i else x.getLsbD i := by
  rw [BitVec.getLsbD_ofNat, Nat.mul_comm, Nat.testBit_two_pow_mul_add _ (Nat.mod_lt _ (Nat.two_pow_pos k)),
    Nat.testBit_mod_two_pow, Nat.testBit_div_two_pow, decide_eq_true hi, Bool.true_and]
  split
  case isTrue h => rw [decide_eq_true h, Bool.true_and]; rfl
  case isFalse h => rw [Nat.sub_add_cancel (Nat.not_lt.mp h)]; rfl

/-- The model's masking by bits is the movement inside the buffer. -/
theorem qualify_eq_movedInBuffer {mask : Byte} (justified : mask &&& (mask + 1) = 0) (r : Word) (off : Ext) :
    qualify r mask off = movedInBuffer r mask off := by
  have sum : BitVec.ofInt 16 (r.toInt + off.toInt) = r + off.signExtend 16 := by
    rw [add_eq_ofInt, BitVec.toInt_signExtend_of_le (by decide)]
  rw [qualify, movedInBuffer, bufferSize]
  by_cases zero : mask = 0
  · rw [if_pos zero, if_pos zero]
    rw [toNat_emod_two_pow (Nat.le_refl 16), sum, Nat.div_eq_of_lt r.isLt, Nat.zero_mul, Nat.zero_add,
      Nat.mod_eq_of_lt (BitVec.isLt _), BitVec.ofNat_toNat, BitVec.setWidth_eq]
  · rw [if_neg zero, if_neg zero]
    obtain ⟨k, hk, ones⟩ := exists_ones_of_rightJustified mask justified
    have size : mask.toNat + 1 = 2 ^ k := by
      have := Nat.two_pow_pos k
      have := Nat.pow_le_pow_right (n := 2) (by decide) hk
      rw [ones, BitVec.toNat_ofNat]
      omega
    rw [size, toNat_emod_two_pow (Nat.le_trans hk (by decide)), sum]
    apply BitVec.eq_of_getLsbD_eq
    intro i hi
    have bit : (mask.setWidth 16).getLsbD i = decide (i < k) := by
      rw [ones, BitVec.getLsbD_setWidth, BitVec.getLsbD_ofNat, Nat.testBit_two_pow_sub_one]
      grind
    rw [getLsbD_above_below _ _ hi]
    simp only [BitVec.getLsbD_or, BitVec.getLsbD_and, BitVec.getLsbD_not, bit, hi]
    by_cases h : i < k <;> simp [h]

end Sys2Proof.Machine

/-! ### MAC and RMAC (47_dsp.md R664, R676, R679) -/

namespace Sys2Proof.Machine

/-- One index register; where the mask is not right-justified its value is free (log entry 20). -/
theorem State.nextIndex_eq (s : State) (r : Word) (mask : Byte) (off : Ext) :
    ∃ v n, s.nextIndex r mask off = (v, { s with free := n }) ∧
      (mask &&& (mask + 1) = 0 → v = movedInBuffer r mask off) := by
  rw [State.nextIndex]
  split
  case isTrue h => exact ⟨_, s.free, rfl, fun justified => qualify_eq_movedInBuffer justified r off⟩
  case isFalse h => exact ⟨_, _, rfl, fun justified => absurd (beq_iff_eq.mpr justified) h⟩

/-- IX and IY move in their buffers; nothing else changes. -/
theorem State.moveIndexes_eq (s : State) (xo yo : Ext) :
    ∃ ix iy n, s.moveIndexes xo yo = { s with reg := { s.reg with ix := ix, iy := iy }, free := n } ∧
      (s.mac.xmsk &&& (s.mac.xmsk + 1) = 0 → ix = movedInBuffer s.reg.ix s.mac.xmsk xo) ∧
      (s.mac.ymsk &&& (s.mac.ymsk + 1) = 0 → iy = movedInBuffer s.reg.iy s.mac.ymsk yo) := by
  obtain ⟨ix, m, first, hix⟩ := s.nextIndex_eq s.reg.ix s.mac.xmsk xo
  obtain ⟨iy, n, second, hiy⟩ := ({ s with free := m } : State).nextIndex_eq s.reg.iy s.mac.ymsk yo
  refine ⟨ix, iy, n, ?_, hix, hiy⟩
  rw [State.moveIndexes, first]
  simp only [second]
  rfl

/-- `u` is `s` after the part that MAC and RMAC share: a product added to AM, whose exact sum is `exact`, the indexes
moved and HR and IR loaded. The other registers are those of `r`. -/
structure Iterated (s u : State) (xo yo : Ext) (r : Regs) (exact : Int) : Prop where
  reg : u.reg = { r with ix := u.reg.ix, iy := u.reg.iy, ccr := accumulatedCcr exact s.reg.ccr }
  moved : BuffersMoved s u xo yo
  am : u.mac.am = (s.mac.accumulated s.reg.ccr exact).am
  sl : u.mac.sl = (s.mac.accumulated s.reg.ccr exact).sl
  mem : u.mem = s.mem
  ctl : ControlKept s u
  out : OutsideKept s u

/-- The state before HR and IR are loaded: the product is in AM, and the indexes have moved. -/
def State.beforeLoads (s : State) (r : Regs) (exact : Int) (ix iy : Word) (n : Nat) : State :=
  { s with
    reg := { r with ix := ix, iy := iy, ccr := accumulatedCcr exact s.reg.ccr },
    mac := s.mac.accumulated s.reg.ccr exact, free := n }

/-- The loads come last, from the addresses that IX and IY then give. -/
theorem Iterated.of_loadHRIR {s : State} {xo yo : Ext} {r : Regs} {ix iy : Word} (exact : Int) (n : Nat)
    (hs : s.executing = true) (xk : r.xk = s.reg.xk) (yk : r.yk = s.reg.yk)
    (hix : s.mac.xmsk &&& (s.mac.xmsk + 1) = 0 → ix = movedInBuffer s.reg.ix s.mac.xmsk xo)
    (hiy : s.mac.ymsk &&& (s.mac.ymsk + 1) = 0 → iy = movedInBuffer s.reg.iy s.mac.ymsk yo) :
    Iterated s (s.beforeLoads r exact ix iy n).loadHRIR xo yo r exact := by
  obtain ⟨reg, mac, mem, ctl, out, hr, ir⟩ := (s.beforeLoads r exact ix iy n).loadHRIR_spec hs
  rw [show (s.beforeLoads r exact ix iy n).xkix = pair s.reg.xk ix from xk ▸ rfl] at hr
  rw [show (s.beforeLoads r exact ix iy n).ykiy = pair s.reg.yk iy from yk ▸ rfl] at ir
  generalize (s.beforeLoads r exact ix iy n).loadHRIR = u at *
  have uix : u.reg.ix = ix := by rw [reg]; rfl
  have uiy : u.reg.iy = iy := by rw [reg]; rfl
  refine ⟨by rw [reg]; rfl, ⟨?x, ?y, ?mac, ?hr, ?ir⟩, by rw [mac]; rfl, by rw [mac]; rfl, mem, ctl, out⟩
  case x => rw [uix]; exact hix
  case y => rw [uiy]; exact hiy
  case mac => rw [mac]; rfl
  case hr => rw [uix]; exact hr
  case ir => rw [uiy]; exact ir

/-- The claim on AM and its flags, for what the instruction makes of the iteration's state. -/
theorem Iterated.accumulated {s u t : State} {xo yo : Ext} {r : Regs} {exact : Int} (it : Iterated s u xo yo r exact)
    (mac : t.mac = u.mac) (flags : AccumulatedFlags exact s.reg.ccr t.reg.ccr) : Accumulated s t exact :=
  .of_mac flags (by rw [mac, it.am]) (by rw [mac, it.sl])

/-- The product that MAC and RMAC add to AM, exactly (47_dsp.md R665). -/
def Mac.product (m : Mac) : Int := m.hr.toInt * m.ir.toInt * 2

/-- MAC is an iteration with the product in E : D and the old HR in IZ, and then V (47_dsp.md R676). -/
theorem exec_mac (s : State) (xo yo : Ext) (hs : s.executing = true) :
    let p := BitVec.ofInt 32 s.mac.product
    ∃ u, Iterated s u xo yo { s.reg.withED (hiWord p) (loWord p) with iz := s.mac.hr }
        (s.mac.am.toInt + s.mac.product) ∧
      exec (.mac xo yo) s =
        .next ((u.setCcr (withV (decide (s.mac.hr = 0x8000 ∧ s.mac.ir = 0x8000)) u.reg.ccr)).advance 2) := by
  intro p
  obtain ⟨word, addend, square⟩ := macProduct_eq s.mac.hr s.mac.ir
  have sum := (s.setED p).accumulate_eq addend
  obtain ⟨ix, iy, n, moves, hix, hiy⟩ :=
    ((s.setED p).accumulate (macProduct s.mac.hr s.mac.ir).2.1).moveIndexes_eq xo yo
  rw [sum] at moves hix hiy
  refine ⟨_, .of_loadHRIR _ n hs rfl rfl hix hiy, ?_⟩
  show execMac xo yo s = _
  rw [execMac]
  simp only [word, square]
  rw [show BitVec.ofInt 32 (s.mac.hr.toInt * s.mac.ir.toInt * 2) = p from rfl, sum, moves]
  rfl

/-- Settles O53: the product goes to E : D and to AM; V is set where it has no 32-bit form. -/
theorem multiplyAccumulate : Obligations.MultiplyAccumulate := by
  intro s xo yo product p hs
  obtain ⟨u, it, runs⟩ := exec_mac s xo yo hs
  have ccr : u.reg.ccr = accumulatedCcr (s.mac.am.toInt + product) s.reg.ccr := by rw [it.reg]; rfl
  have update := (CcrUpdate.accumulatedCcr (s.mac.am.toInt + product) s.reg.ccr).withV
    (v := decide (s.mac.hr = 0x8000 ∧ s.mac.ir = 0x8000))
    (flags := fun f => AccumulatedFlags (s.mac.am.toInt + product) s.reg.ccr f ∧
      flagV f = decide (s.mac.hr = 0x8000 ∧ s.mac.ir = 0x8000))
    fun f acc => by simpa only [AccumulatedFlags, flagMV_withV, flagEV_withV, flagV_withV, and_true] using acc
  rw [← ccr] at update
  obtain ⟨become, advanced, keeps, acc, v⟩ := registers_after (i := .mac xo yo) (n := 2)
    (u := u.setCcr (withV (decide (s.mac.hr = 0x8000 ∧ s.mac.ir = 0x8000)) u.reg.ccr))
    (r := { s.reg.withED (hiWord p) (loWord p) with ix := u.reg.ix, iy := u.reg.iy, iz := s.mac.hr })
    (by rw [State.setCcr, it.reg]; rfl) (update.of_subset (bits' := [14, 12, 9]) (by simp)) rfl
  exact ⟨_, runs, it.accumulated rfl acc, become, it.moved, v, keeps, advanced, it.ctl, .of_mem it.mem, it.out⟩

/-- RMAC after its iteration `u`: D is free, `e` is the count, and `more` marks that RMAC goes on (47_dsp.md R679). -/
def State.counted (u : State) (d e : Word) (n : Nat) (more : Bool) : State :=
  { u with reg := { u.reg.withD d with e := e }, free := n, begun := more }

/-- RMAC is an iteration; then the count goes down, and PK : PC moves on when it is negative (47_dsp.md R679). -/
theorem exec_rmac (s : State) (xo yo : Ext) (hs : s.executing = true) :
    ∃ u, Iterated s u xo yo s.reg (s.mac.am.toInt + s.mac.product) ∧ ∃ d e n,
      if 0 ≤ (s.reg.e - 1).toInt then exec (.rmac xo yo) s = .next (u.counted d (s.reg.e - 1) n true)
      else exec (.rmac xo yo) s = .next ((u.counted d e n false).advance 2) := by
  obtain ⟨-, addend, -⟩ := macProduct_eq s.mac.hr s.mac.ir
  have sum := s.accumulate_eq addend
  obtain ⟨ix, iy, n, moves, hix, hiy⟩ := (s.accumulate (macProduct s.mac.hr s.mac.ir).2.1).moveIndexes_eq xo yo
  rw [sum] at moves hix hiy
  have it := Iterated.of_loadHRIR (r := s.reg) (s.mac.am.toInt + s.mac.product) n hs rfl rfl hix hiy
  have loaded : ((s.accumulate (macProduct s.mac.hr s.mac.ir).2.1).moveIndexes xo yo).loadHRIR =
      (s.beforeLoads s.reg (s.mac.am.toInt + s.mac.product) ix iy n).loadHRIR := by
    rw [sum, moves]
    rfl
  generalize (s.beforeLoads s.reg (s.mac.am.toInt + s.mac.product) ix iy n).loadHRIR = u at *
  have count : u.reg.e = s.reg.e := by rw [it.reg]
  have sign : (s.reg.e - 1).msb = decide ((s.reg.e - 1).toInt < 0) := BitVec.msb_eq_toInt
  have runs : exec (.rmac xo yo) s = execRmac xo yo s := rfl
  rw [execRmac] at runs
  simp only [loaded, count, sign] at runs
  by_cases more : 0 ≤ (s.reg.e - 1).toInt
  · refine ⟨u, it, u.freshWord.1, 0, u.freshWord.2.free, ?_⟩
    rw [if_pos more, runs, decide_eq_false (Int.not_lt.mpr more)]
    rfl
  · refine ⟨u, it, u.freshWord.1, u.freshWord.2.freshWord.1, u.freshWord.2.freshWord.2.free, ?_⟩
    rw [if_neg more, runs, decide_eq_true (Int.not_le.mp more)]
    rfl

/-- Settles O54: an iteration does not take the product to E : D, and PK : PC stays while the count is not negative. -/
theorem repeatingMultiplyAccumulate : Obligations.RepeatingMultiplyAccumulate := by
  intro s xo yo product again hs
  obtain ⟨u, it, d, e, n, runs⟩ := exec_rmac s xo yo hs
  have ccr : u.reg.ccr = accumulatedCcr (s.mac.am.toInt + product) s.reg.ccr := by rw [it.reg]; rfl
  have update : CcrUpdate [14, 12] _ _ _ := CcrUpdate.accumulatedCcr (s.mac.am.toInt + product) s.reg.ccr
  rw [← ccr] at update
  have become (e : Word) (more : Bool) : (u.counted d e n more).reg =
      { s.reg with ix := u.reg.ix, iy := u.reg.iy, e := e, a := hi d, b := lo d, ccr := u.reg.ccr } := by
    rw [State.counted, it.reg]
    rfl
  split at runs
  case isTrue more =>
    have goesOn : again = true := decide_eq_true more
    have pkpc : (u.counted d (s.reg.e - 1) n true).pkpc = s.pkpc :=
      State.pkpc_congr (by rw [become]) (by rw [become, update.pk])
    have regs : RegsBecome { s.reg with ix := u.reg.ix, iy := u.reg.iy, e := s.reg.e - 1, a := hi d, b := lo d }
        (u.counted d (s.reg.e - 1) n true) := by rw [RegsBecome, become]
    exact ⟨_, runs, it.accumulated rfl update.holds, regs, it.moved, fun _ => ⟨rfl, pkpc⟩,
      fun ends => absurd (goesOn.symm.trans ends) (by decide), update.kept, it.ctl, .of_mem it.mem, it.out⟩
  case isFalse less =>
    have ends : again = false := decide_eq_false less
    obtain ⟨regs, advanced, keeps, acc⟩ := registers_after (i := .rmac xo yo) (s := s) (u := u.counted d e n false)
      (r := { s.reg with ix := u.reg.ix, iy := u.reg.iy, e := e, a := hi d, b := lo d }) (n := 2) (become _ _)
      update rfl
    exact ⟨_, runs, it.accumulated rfl acc, regs, it.moved, fun goesOn => absurd (goesOn.symm.trans ends) (by decide),
      fun _ => advanced, keeps, it.ctl, .of_mem it.mem, it.out⟩

end Sys2Proof.Machine

/-! ### PSHMAC and PULMAC (47_dsp.md R677, R678) -/

namespace Sys2Proof.Machine

/-- The word of SL and AM's top bits as a number: the bits between are stored as 0 (47_dsp.md R677, log entry 28). -/
theorem signWord_eq (sl : Bool) (am : Acc) :
    bit 1 sl ++ 0#11 ++ BitVec.extractLsb' 32 4 am = BitVec.ofNat 16 (2 ^ 15 * sl.toNat + am.toNat / 2 ^ 32) := by
  have top : am.toNat / 2 ^ 32 < 2 ^ 4 := by have := am.isLt; omega
  apply BitVec.eq_of_toNat_eq
  rw [BitVec.toNat_append, BitVec.extractLsb'_toNat, Nat.shiftRight_eq_div_pow, Nat.mod_eq_of_lt top,
    ← Nat.shiftLeft_add_eq_or_of_lt top, BitVec.toNat_ofNat]
  cases sl <;> simp [bit] <;> omega

/-- The next word pulled, where memory answers at its two bytes. -/
theorem Pulled.next {s t : State} {n : Nat} {r : Regs} {c : Control} (p : Pulled s t n r c)
    (r0 : s.readable (s.pullSlot n) = true) (r1 : s.readable (s.pullSlot n + 1) = true) :
    t.pull16.1 = s.dataWord (s.pullSlot n) ∧ Pulled s t.pull16.2 (n + 1) r c := by
  have answers (a : Addr) (ha : s.readable a = true) : t.readable a = true := by
    rw [State.readable, p.out.1]
    exact ha
  rw [← p.sksp_add_two] at r0 r1
  obtain ⟨value, reg, mac, mem, ctl, out⟩ := t.pull16_memory_spec (answers _ r0) (answers _ r1)
  rw [p.sksp_add_two] at value reg
  refine ⟨?value, ?reg, mac.trans p.mac, mem.trans p.mem, ?ctl, out.1.trans p.out.1, out.2.trans p.out.2⟩
  case value => rw [value, State.dataWord, DataKept.of_mem p.mem, DataKept.of_mem p.mem]; rfl
  case reg => rw [reg, p.reg]; rfl
  case ctl => rw [ctl, p.ctl]

/-- Where memory answers at `m` words, the next of them is pulled. -/
theorem Pulled.pull16_of_lt {s t : State} {n m : Nat} {r : Regs} {c : Control} (p : Pulled s t n r c)
    (h : s.readableFrom (s.sksp + 2) (2 * m) = true) (hn : n < m) :
    t.pull16.1 = s.dataWord (s.pullSlot n) ∧ Pulled s t.pull16.2 (n + 1) r c := by
  have all : ∀ k < 2 * m, s.readable (s.sksp + 2 + BitVec.ofNat 20 k) = true := by
    simpa only [State.readableFrom, List.all_eq_true, List.mem_range] using h
  have high : s.sksp + 2 + BitVec.ofNat 20 (2 * n) = s.pullSlot n := by rw [State.pullSlot]; bv_omega
  have low : s.sksp + 2 + BitVec.ofNat 20 (2 * n + 1) = s.pullSlot n + 1 := by rw [State.pullSlot]; bv_omega
  exact p.next (high ▸ all _ (by omega)) (low ▸ all _ (by omega))

/-- The words that PSHMAC pushes, in order (47_dsp.md R677). -/
def Mac.words (m : Mac) : List Word :=
  [m.hr, m.ir, BitVec.extractLsb' 0 16 m.am, BitVec.extractLsb' 16 16 m.am,
    bit 1 m.sl ++ 0#11 ++ BitVec.extractLsb' 32 4 m.am, word m.xmsk m.ymsk]

theorem exec_pshmac (s : State) : exec .pshmac s = .next ((s.pushAll s.mac.words).advance 2) := rfl

/-- The way of SK : SP through six words. -/
theorem ofNat_six_words (m : Mac) : BitVec.ofNat 20 (2 * m.words.length) = 12 := rfl

theorem completes_pshmac {s : State} (hs : s.executing = true) : Completes .pshmac s fun t =>
    RegsBecome (s.reg.withS (s.sksp - 12)) t ∧ Advanced .pshmac s t ∧ CcrKept [] s t ∧ t.mac = s.mac ∧
      ControlKept s t ∧ OutsideKept s t ∧ StoresCells s t (stackCells s.sksp s.mac.words) := by
  obtain ⟨cells, reg, mac, ctl, out⟩ := State.pushAll_spec s.mac.words (by simp [Mac.words]) s hs
  have runs := exec_pshmac s
  rw [ofNat_six_words] at reg
  generalize s.pushAll s.mac.words = u at *
  obtain ⟨become, advanced, keeps, -⟩ := registers_after (i := .pshmac) (s := s) (u := u)
    (r := s.reg.withS (s.sksp - 12)) (by rw [reg]; rfl) (.of_eq (by rw [reg]; rfl)) rfl
  exact ⟨_, runs, become, advanced, keeps, mac, ctl, out, cells⟩

/-- The MAC unit that PULMAC takes from the words of the stack (47_dsp.md R678). -/
def Mac.ofStack (w : Nat → Word) : Mac :=
  { xmsk := hi (w 2), ymsk := lo (w 2), sl := (w 4).getLsbD 15, am := nib0 (w 4) ++ w 6 ++ w 8, ir := w 10, hr := w 12 }

/-- PULMAC, as six pulls from memory. -/
theorem exec_pulmac {s : State} (h : s.readableFrom (s.sksp + 2) 12 = true) :
    ∃ u : State, Pulled s u 6 s.reg s.ctl ∧ exec .pulmac s = .next
      (({ u with mac := .ofStack fun k => s.dataWord (s.sksp + BitVec.ofNat 20 k) } : State).advance 2) := by
  obtain ⟨masks, p1⟩ := (Pulled.refl s).pull16_of_lt (m := 6) h (by decide)
  obtain ⟨sl, p2⟩ := p1.pull16_of_lt (m := 6) h (by decide)
  obtain ⟨amh, p3⟩ := p2.pull16_of_lt (m := 6) h (by decide)
  obtain ⟨aml, p4⟩ := p3.pull16_of_lt (m := 6) h (by decide)
  obtain ⟨ir, p5⟩ := p4.pull16_of_lt (m := 6) h (by decide)
  obtain ⟨hr, p6⟩ := p5.pull16_of_lt (m := 6) h (by decide)
  refine ⟨_, p6, ?_⟩
  show execPulmac s = _
  simp only [execPulmac, masks, sl, amh, aml, ir, hr, State.pullSlot, Nat.reduceAdd, Nat.reduceMul,
    BitVec.msb_eq_getLsbD_last]
  generalize s.pull16.2.pull16.2.pull16.2.pull16.2.pull16.2.pull16.2 = u
  rfl

theorem completes_pulmac {s : State} (h : s.readableFrom (s.sksp + 2) 12 = true) : Completes .pulmac s fun t =>
    RegsBecome (s.reg.withS (s.sksp + 12)) t ∧ Advanced .pulmac s t ∧ CcrKept [] s t ∧
      t.mac = .ofStack (fun k => s.dataWord (s.sksp + BitVec.ofNat 20 k)) ∧ ControlKept s t ∧ DataKept s t ∧
      OutsideKept s t := by
  obtain ⟨u, ⟨reg, -, mem, ctl, out⟩, runs⟩ := exec_pulmac h
  have kept : ControlKept s u := by rw [ControlKept, ctl]
  obtain ⟨become, advanced, keeps, -⟩ := registers_after (i := .pulmac) (s := s)
    (u := { u with mac := .ofStack fun k => s.dataWord (s.sksp + BitVec.ofNat 20 k) })
    (r := s.reg.withS (s.sksp + 12)) (by rw [reg]; rfl) (.of_eq (by rw [reg]; rfl)) rfl
  exact ⟨_, runs, become, advanced, keeps, rfl, kept, .of_mem mem, out⟩

/-- Settles O55: PSHMAC is six pushes and PULMAC six pulls. -/
theorem macStacking : Obligations.MacStacking := by
  intro s hs am w
  refine ⟨?pshmac, completes_pulmac⟩
  rw [← signWord_eq]
  exact completes_pshmac hs

end Sys2Proof.Machine

/-! ### An operand cycle by what answers (20_memory.md R104, R105, 60_exceptions.md R721, R722) -/

namespace Sys2Proof.Machine

/-- The state in which an operand cycle is answered: a BKPT asserted at it is noted, and the cycle may have used up free
values. -/
def State.cycleNoted (s : State) (a : Addr) (n : Nat) : State := { s.noteOperand a with free := n }

theorem State.cycleNoted_kept (s : State) (a : Addr) (n : Nat) : BusKept s (s.cycleNoted a n) :=
  have kept := (s.noteOperand_kept a).1
  ⟨kept.reg, kept.mac, kept.ctl, kept.out⟩

theorem State.cycleNoted_mem (s : State) (a : Addr) (n : Nat) : (s.cycleNoted a n).mem = s.mem :=
  (s.noteOperand_kept a).2

theorem State.cycleNoted_ctl (s : State) (a : Addr) (n : Nat) :
    (s.cycleNoted a n).ctl = { s.ctl with bkptLatch := s.ctl.bkptLatch || s.breaks a } :=
  s.noteOperand_ctl a

/-- Outside the window a BERR sets the latch and does nothing else. -/
theorem State.signalBusError_executing (s : State) (h : s.executing = true) :
    s.signalBusError = s.setBerrLatch true := by
  have closed : s.ctl.berrWindow = false := by simpa [State.executing] using h
  rw [State.signalBusError, closed]
  rfl

/-- Inside the window a BERR is a double bus fault. -/
theorem State.signalBusError_window (s : State) (h : s.executing = false) : s.signalBusError = s.doubleBusFault := by
  have opened : s.ctl.berrWindow = true := by simpa [State.executing] using h
  rw [State.signalBusError, opened, if_pos rfl]

/-- A BERR does not touch the BKPT latch. -/
theorem State.signalBusError_bkptLatch (s : State) : s.signalBusError.ctl.bkptLatch = s.ctl.bkptLatch := by
  cases h : s.executing with
  | true =>
    rw [s.signalBusError_executing h]
    rfl
  | false =>
    obtain ⟨-, -, -, -, ctl, -⟩ := s.doubleBusFault_spec
    rw [s.signalBusError_window h, ctl]

/-- A read cycle ends in BERR where nothing answers. -/
theorem State.read8_ended {s : State} {a : Addr} (h : kindAt s.plat.dataMap a.toNat = .busError) :
    (s.read8 a).2 = (s.cycleNoted a ((s.noteOperand a).free + 1)).signalBusError := by
  simp only [State.read8, h]
  rfl

/-- A write cycle ends in BERR where nothing answers, and at a ROM that answers stores so. -/
theorem State.write8_ended {s : State} {a : Addr} (v : Byte)
    (h : kindAt s.plat.dataMap a.toNat = .busError ∨ kindAt s.plat.dataMap a.toNat = .romBusError) :
    s.write8 a v = (s.cycleNoted a (s.noteOperand a).free).signalBusError := by
  rcases h with h | h <;> simp only [State.write8, h] <;> rfl

/-- Any other read cycle touches no latch but that of BKPT. -/
theorem State.read8_answered {s : State} {a : Addr} (h : kindAt s.plat.dataMap a.toNat ≠ .busError) :
    (s.read8 a).2.ctl = { s.ctl with bkptLatch := s.ctl.bkptLatch || s.breaks a } := by
  rw [← s.noteOperand_ctl a]
  cases kind : kindAt s.plat.dataMap a.toNat with
  | ram | rom | romBusError => simp only [State.read8, kind]
  | device =>
    simp only [State.read8, kind]
    rfl
  | busError => exact absurd kind h

/-- Any other write cycle touches no latch but that of BKPT. -/
theorem State.write8_answered {s : State} {a : Addr} (v : Byte) (h : kindAt s.plat.dataMap a.toNat ≠ .busError)
    (h' : kindAt s.plat.dataMap a.toNat ≠ .romBusError) :
    (s.write8 a v).ctl = { s.ctl with bkptLatch := s.ctl.bkptLatch || s.breaks a } := by
  cases kind : kindAt s.plat.dataMap a.toNat with
  | ram =>
    obtain ⟨-, -, ctl⟩ := s.write8_ram_spec a v (by rw [State.writable, kind]; rfl)
    exact ctl
  | rom | device =>
    rw [← s.noteOperand_ctl a]
    simp only [State.write8, kind]
  | romBusError => exact absurd kind h'
  | busError => exact absurd kind h

/-- What an operand cycle that ends in BERR leaves: the two claims are those outside and inside the window. -/
theorem State.cycleEnded_spec {s t : State} {a : Addr} {n : Nat} (ends : t = (s.cycleNoted a n).signalBusError) :
    (s.executing = true →
      t.ctl.berrLatch = true ∧ t.reg = s.reg ∧ t.mac = s.mac ∧ ControlKept s t ∧ DataKept s t ∧ OutsideKept s t) ∧
    (s.executing = false → t.ctl.run = (if s.ctl.bdmFlag then .background else .halted) ∧ DataKept s t) ∧
    t.ctl.bkptLatch = (s.ctl.bkptLatch || s.breaks a) := by
  have noted := s.cycleNoted_kept a n
  have mem := s.cycleNoted_mem a n
  have ctl := s.cycleNoted_ctl a n
  subst ends
  generalize s.cycleNoted a n = u at *
  have window : u.executing = s.executing := by rw [State.executing, ctl]; rfl
  refine ⟨fun h => ?closed, fun h => ?opened, ?bkpt⟩
  case closed =>
    rw [← window] at h
    obtain ⟨kept, mem'⟩ := u.signalBusError_kept h
    have all := noted.trans kept
    exact ⟨by rw [u.signalBusError_executing h]; rfl, all.reg, all.mac, all.ctl, .of_mem (mem'.trans mem), all.out⟩
  case opened =>
    rw [← window] at h
    obtain ⟨-, -, -, -, ctl', mem', -⟩ := u.doubleBusFault_spec
    rw [u.signalBusError_window h, ctl', ctl]
    exact ⟨rfl, .of_mem (mem'.trans mem)⟩
  case bkpt => rw [u.signalBusError_bkptLatch, ctl]

/-- Settles O14: by what answers at the address, each cycle ends in BERR or is answered. -/
theorem busErrorLatches : Obligations.BusErrorLatches := by
  intro s a v
  cases kind : kindAt s.plat.dataMap a.toNat with
  | ram | rom | device =>
    have read := State.read8_answered (s := s) (a := a) (by rw [kind]; decide)
    have write := State.write8_answered (s := s) (a := a) v (by rw [kind]; decide) (by rw [kind]; decide)
    simp [read, write]
  | romBusError =>
    have read := State.read8_answered (s := s) (a := a) (by rw [kind]; decide)
    obtain ⟨closed, opened, bkpt⟩ := State.cycleEnded_spec (State.write8_ended v (.inr kind))
    simpa [read, bkpt] using ⟨closed, opened⟩
  | busError =>
    obtain ⟨closed, opened, bkpt⟩ := State.cycleEnded_spec (State.read8_ended kind)
    obtain ⟨closed', opened', bkpt'⟩ := State.cycleEnded_spec (State.write8_ended v (.inl kind))
    simpa [bkpt, bkpt'] using ⟨fun h => ⟨closed h, closed' h⟩, fun h => ⟨opened h, opened' h⟩⟩

end Sys2Proof.Machine

/-! ### SWI -/

namespace Sys2Proof.Machine

/-- Settles O40: SWI is the synchronous exception of vector 6. -/
theorem softwareInterrupt : Obligations.SoftwareInterrupt :=
  fun _ _ ready => ⟨_, rfl, State.takeSynchronous_spec ready⟩

end Sys2Proof.Machine

/-! ### Every instruction answers, and where a step stops (20_memory.md R108, 60_exceptions.md R733) -/

namespace Sys2Proof.Machine

theorem ite_answers {p : Prop} [Decidable p] {x y : Result} (hx : ∃ t, x = .next t) (hy : ∃ t, y = .next t) :
    ∃ t, (if p then x else y) = .next t := by
  split
  · exact hx
  · exact hy

/-- Every instruction answers a next state. -/
theorem exec_answers (i : Instr) (s : State) : ∃ t, exec i s = .next t := by
  cases i
  case movb f | movw f => cases f <;> exact ⟨_, rfl⟩
  case ediv | edivs => exact ite_answers ⟨_, rfl⟩ (ite_answers ⟨_, rfl⟩ ⟨_, rfl⟩)
  case fdiv | idiv | lpstop | bgnd | rmac => exact ite_answers ⟨_, rfl⟩ ⟨_, rfl⟩
  all_goals exact ⟨_, rfl⟩

/-- The answer is a next state, or the refusal of words that were stored inside a prefetch window, of which there are
some. -/
def AnswersOrStale (s : State) (r : Result) : Prop :=
  (∃ t, r = .next t) ∨ r = .refused .storeIntoPrefetchWindow ∧ s.stale ≠ []

theorem State.isStale_ne_nil {s : State} {len : Nat} (h : s.isStale len = true) : s.stale ≠ [] := by
  intro none
  simp [State.isStale, none] at h

theorem State.runWords_answers (s : State) (w0 w1 w2 : Word) : AnswersOrStale s (s.runWords w0 w1 w2) := by
  unfold State.runWords
  cases decode w0 w1 w2 with
  | error e =>
    simp only
    split
    · next stale => exact .inr ⟨rfl, State.isStale_ne_nil stale⟩
    · exact .inl ⟨_, rfl⟩
  | ok i =>
    obtain ⟨t, runs⟩ := exec_answers i s
    simp only [runs]
    split
    · next stale => exact .inr ⟨rfl, State.isStale_ne_nil stale⟩
    · exact .inl ⟨_, rfl⟩

theorem State.doubleBusFault_stale (s : State) : s.doubleBusFault.stale = s.stale := by
  unfold State.doubleBusFault
  split <;> rfl

theorem State.progRead16_stale (s : State) (a : Addr) : (s.progRead16 a).2.stale = s.stale := by
  unfold State.progRead16
  cases kindAt s.plat.progMap a.toNat with
  | ram | rom | romBusError | device => rfl
  | busError =>
    simp only [State.signalBusError]
    split
    · exact s.doubleBusFault_stale
    · rfl

theorem State.fetchMore_stale (s : State) (a : Addr) : (s.fetchMore a).2.stale = s.stale := by
  unfold State.fetchMore
  split
  · exact s.progRead16_stale a
  · rfl

/-- Fetching notes no store. -/
theorem State.fetch_stale (s : State) : s.fetch.2.stale = s.stale := by
  simp only [State.fetch, State.fetchMore_stale, State.progRead16_stale]

theorem State.closeWindow_stale (s : State) : s.closeWindow.stale = s.stale := by
  unfold State.closeWindow
  split <;> rfl

theorem State.executeNext_answers (s : State) : AnswersOrStale s s.executeNext := by
  unfold State.executeNext
  simp only
  split
  · have answers := s.fetch.2.closeWindow.runWords_answers s.fetch.1.1 s.fetch.1.2.1 s.fetch.1.2.2
    rwa [AnswersOrStale, State.closeWindow_stale, State.fetch_stale] at answers
  · exact .inl ⟨_, rfl⟩

theorem State.boundary_answers (s : State) : AnswersOrStale s s.boundary := by
  unfold State.boundary
  split
  · exact .inl ⟨_, rfl⟩
  split
  · exact .inl ⟨_, rfl⟩
  split
  · exact (s.setInhibit false).executeNext_answers
  split
  · exact .inl ⟨_, rfl⟩
  · exact s.executeNext_answers

/-- What a step can answer from a state: a next state, or one of the two stops (log entries 11 and 33). -/
inductive StepAnswer (s : State) : Result → Prop where
  | next (t : State) : StepAnswer s (.next t)
  | halted (run : s.ctl.run = .halted) (last : ∀ b, Input.reset b ∉ s.plat.inputs) : StepAnswer s (.fault .halted)
  | stale (run : s.ctl.run = .running) (noted : s.stale ≠ []) : StepAnswer s (.refused .storeIntoPrefetchWindow)

theorem AnswersOrStale.stepAnswer {s : State} {r : Result} (h : AnswersOrStale s r) (run : s.ctl.run = .running) :
    StepAnswer s r := by
  rcases h with ⟨t, rfl⟩ | ⟨rfl, noted⟩
  · exact .next t
  · exact .stale run noted

theorem State.stepRun_answer (s : State) : StepAnswer s s.stepRun := by
  unfold State.stepRun
  cases run : s.ctl.run with
  | running => exact s.boundary_answers.stepAnswer run
  | stopped | waiting | background => exact .next _
  | halted =>
    simp only [State.haltedStep]
    split
    · next empty => exact .halted run fun b => by rw [empty]; exact List.not_mem_nil
    · exact .next s

/-- An answer after an input that is no reset is an answer of the step that took it. -/
theorem StepAnswer.of_input {s u : State} {i : Input} {r : Result} (h : StepAnswer u r) (run : u.ctl.run = s.ctl.run)
    (stale : u.stale = s.stale) (inputs : s.plat.inputs = i :: u.plat.inputs) (noReset : ∀ b, Input.reset b ≠ i) :
    StepAnswer s r := by
  cases h with
  | next t => exact .next t
  | halted halts last =>
    refine .halted (run ▸ halts) fun b => ?_
    rw [inputs, List.mem_cons, not_or]
    exact ⟨noReset b, last b⟩
  | stale runs noted => exact .stale (run ▸ runs) (stale ▸ noted)

/-- New request lines, as one update. -/
theorem State.setLines_eq (s : State) (q : IrqLines) : s.setLines q = { s with
    ctl := { s.ctl with nmiLatch := s.ctl.nmiLatch || (q.irq7 && !s.plat.irq.irq7) },
    plat := { s.plat with irq := q } } := by
  unfold State.setLines
  simp only
  split
  · next rises =>
    rw [rises, Bool.or_true]
    rfl
  · next stays =>
    rw [Bool.not_eq_true] at stays
    rw [stays, Bool.or_false]

/-- Without an input a step is that of the run state. -/
theorem step_of_no_input {s : State} (h : s.plat.inputs = []) : step s = s.stepRun := by
  rw [step, State.takeInput, h]

/-- A change of the lines acts before the step of the run state (log entry 34). -/
theorem step_of_lines {s : State} {q : IrqLines} {rest : List Input} (h : s.plat.inputs = .lines q :: rest) :
    step s = ((s.setInputs rest).setLines q).stepRun := by
  rw [step, State.takeInput, h]

/-- So does one of the addresses at which BKPT is asserted. -/
theorem step_of_bkpt {s : State} {q : IrqLines} {data prog : List (Nat × Nat)} {rest : List Input}
    (h : s.plat.inputs = .bkpt q data prog :: rest) :
    step s = (((s.setInputs rest).setLines q).setBkptRanges data prog).stepRun := by
  rw [step, State.takeInput, h]

theorem step_answer (s : State) : StepAnswer s (step s) := by
  cases inputs : s.plat.inputs with
  | nil =>
    rw [step_of_no_input inputs]
    exact s.stepRun_answer
  | cons i rest =>
    cases i with
    | reset b =>
      rw [step_of_reset s b rest inputs]
      exact .next _
    | lines q =>
      rw [step_of_lines inputs, State.setLines_eq]
      exact (State.stepRun_answer _).of_input rfl rfl inputs (by simp)
    | bkpt q data prog =>
      rw [step_of_bkpt inputs, State.setLines_eq]
      exact (State.stepRun_answer _).of_input rfl rfl inputs (by simp)

/-- Settles O7: instructions by their meanings, steps by the three answers that a step has. -/
theorem stopsOnlyTwoWays : Obligations.StopsOnlyTwoWays := by
  refine ⟨exec_answers, fun s f stops => ?fault, fun s r stops => ?refusal⟩
  case fault =>
    have answer := step_answer s
    rw [stops] at answer
    cases answer with
    | halted run last => exact ⟨rfl, run, last⟩
  case refusal =>
    have answer := step_answer s
    rw [stops] at answer
    cases answer with
    | stale run noted => exact ⟨rfl, run, noted⟩

end Sys2Proof.Machine

/-! ### Idle states, and which interrupt level is recognised (60_exceptions.md R720, R750) -/

namespace Sys2Proof.Machine

theorem State.idleUntil_none {s : State} {ip : BitVec 3} (h : s.pendingLevel ip = none) : s.idleUntil ip = s := by
  rw [State.idleUntil, h]

theorem State.idleUntil_some {s : State} {ip l : BitVec 3} (h : s.pendingLevel ip = some l) :
    s.idleUntil ip = s.takeInterrupt l := by
  rw [State.idleUntil, h]

theorem State.wakeCycles_none {s : State} (t : State) {ip : BitVec 3} (h : s.pendingLevel ip = none) :
    s.wakeCycles t ip = [] := by
  simp [State.wakeCycles, h]

theorem State.wakeCycles_some {s : State} (t : State) {ip l : BitVec 3} (h : s.pendingLevel ip = some l) :
    s.wakeCycles t ip = interruptCycle s.prefetch.1 :: t.refillCycles := by
  simp [State.wakeCycles, h]

/-- Without an input, a step drives what its run state drives. -/
theorem State.pipeCycles_of_next {s t : State} (inputs : s.plat.inputs = []) (h : step s = .next t) :
    s.pipeCycles = s.runCycles t := by
  rw [State.pipeCycles, h]
  simp only [State.takeInput, inputs]

/-- A waiting processor steps by what its mask lets in. -/
theorem State.stepRun_waiting {s : State} (run : s.ctl.run = .waiting) :
    s.stepRun = .next (s.idleUntil (fieldIP s.reg.ccr)) ∧ ∀ t, s.runCycles t = s.wakeCycles t (fieldIP s.reg.ccr) := by
  simp only [State.stepRun, State.runCycles, run, implies_true, and_self]

/-- A stopped processor by the default of `STOP_WAKE`: what the copied IP lets in wakes it. -/
theorem State.stepRun_stopped_copy {s : State} (run : s.ctl.run = .stopped) (wake : s.plat.stopWake = .aboveCopy) :
    s.stepRun = .next (s.idleUntil s.ctl.ebiIP) ∧ ∀ t, s.runCycles t = s.wakeCycles t s.ctl.ebiIP := by
  simp only [State.stepRun, State.runCycles, State.stoppedStep, State.stoppedCycles, run, wake, implies_true, and_self]

/-- By a set of levels: a request at one of them wakes it, and then what its own mask lets in counts (log entry 50). -/
theorem State.stepRun_stopped_met {s : State} {m : IrqLines} (run : s.ctl.run = .stopped)
    (wake : s.plat.stopWake = .levels m) (met : s.plat.irq.meets m = true) :
    s.stepRun = .next (s.idleUntil (fieldIP s.reg.ccr)) ∧ ∀ t, s.runCycles t = s.wakeCycles t (fieldIP s.reg.ccr) := by
  simp only [State.stepRun, State.runCycles, State.stoppedStep, State.stoppedCycles, State.restart, run, wake, met,
    if_true, implies_true, and_self]

/-- Without a request at one of them it stays as it is. -/
theorem State.stepRun_stopped_unmet {s : State} {m : IrqLines} (run : s.ctl.run = .stopped)
    (wake : s.plat.stopWake = .levels m) (unmet : s.plat.irq.meets m = false) :
    s.stepRun = .next s ∧ ∀ t, s.runCycles t = [] := by
  simp only [State.stepRun, State.runCycles, State.stoppedStep, State.stoppedCycles, run, wake, unmet,
    Bool.false_eq_true, if_false, implies_true, and_self]

/-- A processor that idles until a level above `ip` stays as it is while none is recognised. -/
theorem State.idles {s : State} {ip : BitVec 3} (inputs : s.plat.inputs = [])
    (idle : s.stepRun = .next (s.idleUntil ip) ∧ ∀ t, s.runCycles t = s.wakeCycles t ip)
    (h : s.pendingLevel ip = none) : step s = .next s ∧ s.pipeCycles = [] := by
  obtain ⟨runs, cycles⟩ := idle
  have stays : step s = .next s := by rw [step_of_no_input inputs, runs, State.idleUntil_none h]
  exact ⟨stays, by rw [State.pipeCycles_of_next inputs stays, cycles, State.wakeCycles_none s h]⟩

/-- Settles O58: each idle state by its step, under each value of `STOP_WAKE`. -/
theorem idleStates : Obligations.IdleStates := by
  intro s inputs
  refine ⟨fun run none => ?waiting, fun run => ⟨fun wake none => ?copy, fun m wake idle => ?levels⟩, fun run => ?halted⟩
  case waiting => exact State.idles inputs (State.stepRun_waiting run) none
  case copy => exact State.idles inputs (State.stepRun_stopped_copy run wake) none
  case levels =>
    cases met : s.plat.irq.meets m with
    | true =>
      have none := idle.resolve_left (by simp [met])
      exact State.idles inputs (State.stepRun_stopped_met run wake met) none
    | false =>
      obtain ⟨runs, cycles⟩ := State.stepRun_stopped_unmet run wake met
      have stays : step s = .next s := by rw [step_of_no_input inputs, runs]
      exact ⟨stays, by rw [State.pipeCycles_of_next inputs stays, cycles]⟩
  case halted => rw [step_of_no_input inputs, State.stepRun, run, State.haltedStep, inputs]

/-- In a falling list that holds all elements with a property, the first one found is the greatest. -/
theorem find?_falling {w : Nat} {p : BitVec w → Bool} {l : BitVec w} {xs : List (BitVec w)}
    (falling : xs.Pairwise fun x y => y < x) (all : ∀ k, p k = true → k ∈ xs) :
    xs.find? p = some l ↔ p l = true ∧ ∀ k, p k = true → k ≤ l := by
  induction xs with
  | nil => simpa using fun h => absurd (all l h) List.not_mem_nil
  | cons x xs ih =>
    obtain ⟨below, falling⟩ := List.pairwise_cons.mp falling
    cases hx : p x with
    | true =>
      have top : ∀ k, p k = true → k ≤ x := fun k hk => by
        rcases List.mem_cons.mp (all k hk) with rfl | hk
        · exact BitVec.le_refl _
        · exact BitVec.le_of_lt (below k hk)
      rw [List.find?_cons_of_pos hx, Option.some_inj]
      refine ⟨?_, fun ⟨hl, greatest⟩ => BitVec.le_antisymm (greatest x hx) (top l hl)⟩
      rintro rfl
      exact ⟨hx, top⟩
    | false =>
      rw [List.find?_cons_of_neg (by simp [hx])]
      refine ih falling fun k hk => (List.mem_cons.mp (all k hk)).resolve_left ?_
      rintro rfl
      simp [hx] at hk

/-- The seven levels, the highest first. -/
def levelsFalling : List (BitVec 3) := [7, 6, 5, 4, 3, 2, 1]

/-- The level recognised is the first one, from 7 down, that the mask or the latch lets in. -/
theorem State.pendingLevel_eq_find? (s : State) (ip : BitVec 3) :
    s.pendingLevel ip = levelsFalling.find? (s.recognisable ip) := by
  have first (x : BitVec 3) (xs : List (BitVec 3)) (p : BitVec 3 → Bool) :
      (x :: xs).find? p = if p x then some x else xs.find? p := by
    cases h : p x <;> simp [h]
  simp [State.pendingLevel, levelsFalling, first, State.recognisable, IrqLines.asserted]

/-- No request line is that of level 0. -/
theorem State.mem_levelsFalling {s : State} {ip k : BitVec 3} (h : s.recognisable ip k = true) : k ∈ levelsFalling := by
  have cover : ∀ k : BitVec 3, k ≠ 0 → k ∈ levelsFalling := by decide
  refine cover k ?_
  rintro rfl
  simp [State.recognisable, IrqLines.asserted] at h

/-- Settles O56: the levels are searched from the highest, and an input is taken before the run state is looked at. -/
theorem interruptRecognition : Obligations.InterruptRecognition := by
  refine ⟨fun s ip l => ?level, fun s q data prog rest => ⟨fun inputs => ?lines, fun inputs => ?bkpt⟩⟩
  case level =>
    rw [State.pendingLevel_eq_find?]
    exact find?_falling (by decide) fun _ => State.mem_levelsFalling
  case lines =>
    rw [step_of_lines inputs, State.setLines_eq]
    rfl
  case bkpt =>
    rw [step_of_bkpt inputs, State.setLines_eq]
    rfl

end Sys2Proof.Machine

/-! ### Exceptions at the boundary: bus error, breakpoint and interrupt (60_exceptions.md R726, R730, R742 (a), R752) -/

namespace Sys2Proof.Machine

/-- The bits of the CCR that taking an exception changes: IP for an interrupt (60_exceptions.md R754). -/
def maskedBits : Option (BitVec 3) → List Nat
  | none => []
  | some _ => [5, 6, 7]

theorem getLsbD_handlerCcr (c : Word) (level : Option (BitVec 3)) {k : Nat} (h4 : 4 ≤ k) (hk : k ∉ maskedBits level) :
    (handlerCcr c level).getLsbD k = c.getLsbD k := by
  cases level with
  | none => simp [handlerCcr, getLsbD_withPK, Nat.not_lt.mpr h4]
  | some l =>
    simp only [maskedBits, List.mem_cons, List.not_mem_nil, or_false, not_or] at hk
    rw [handlerCcr, getLsbD_withIP, if_neg (by omega), getLsbD_withPK, if_neg (by omega)]

/-- An asynchronous exception with stack and vector in RAM: the stacked value is IA + 6 (60_exceptions.md R742 (a)), IP
takes the level of an interrupt, and the latches follow. -/
theorem State.takeAsynchronous_spec {s : State} {n : Byte} (level : Option (BitVec 3))
    (ready : s.exceptionReady n = true) :
    ExceptionTaken s (s.takeAsynchronous n level) (s.ia + 6) n (maskedBits level) ∧
      (∀ l, level = some l → fieldIP (s.takeAsynchronous n level).reg.ccr = l) ∧
      ControlHandler s n { s.ctl with nmiLatch := s.ctl.nmiLatch && decide (level ≠ some 7) }
        (s.takeAsynchronous n level) := by
  obtain ⟨frame, target, regs, mac, out, ctl⟩ := s.takeException_spec s.pkpc n level ready
  rw [← State.pkpc_eq_ia, State.takeAsynchronous]
  refine ⟨⟨frame, target, by rw [ctl], ?become, ?keeps, mac, out⟩, ?ip, ctl⟩
  case become =>
    rw [RegsBecome, regs]
    rfl
  case keeps =>
    intro k h4 _ hk
    rw [regs]
    simp only [getLsbD_withPK, if_neg (Nat.not_lt.mpr h4), getLsbD_handlerCcr _ _ h4 hk]
  case ip =>
    rintro l rfl
    rw [regs]
    simp only [fieldIP_withPK, handlerCcr, fieldIP_withIP]

/-- A bus error or a breakpoint masks no interrupt. -/
theorem State.takeAsynchronous_unmasked {s : State} {n : Byte} (ready : s.exceptionReady n = true) :
    ExceptionTaken s (s.takeAsynchronous n none) (s.ia + 6) n [] ∧
      ControlHandler s n s.ctl (s.takeAsynchronous n none) := by
  obtain ⟨exception, -, control⟩ := State.takeAsynchronous_spec none ready
  refine ⟨exception, control.trans ?_⟩
  simp

/-- An interrupt masks its own level and those below, and level 7 uses up its edge latch (60_exceptions.md R754). -/
theorem State.takeAsynchronous_masked {s : State} {n : Byte} (l : BitVec 3) (ready : s.exceptionReady n = true) :
    ExceptionTaken s (s.takeAsynchronous n (some l)) (s.ia + 6) n [5, 6, 7] ∧
      fieldIP (s.takeAsynchronous n (some l)).reg.ccr = l ∧
      ControlHandler s n { s.ctl with nmiLatch := s.ctl.nmiLatch && decide (l ≠ 7) }
        (s.takeAsynchronous n (some l)) := by
  obtain ⟨exception, ip, control⟩ := State.takeAsynchronous_spec (some l) ready
  refine ⟨exception, ip l rfl, control.trans ?_⟩
  simp only [ne_eq, Option.some_inj]

/-- A state after the prefetch that comes before an asynchronous exception, if that is no double bus fault: the BERR
latch is set where the prefetch failed, and `n` free values have been used up so far (log entry 53). -/
def State.prefetched (s : State) (n : Nat) : State :=
  { s with free := n, ctl := { s.ctl with berrLatch := s.ctl.berrLatch || s.fetchFails (s.ia + 4) } }

theorem State.afterPrefetch_eq {s : State} (process : State → State) (alive : s.alive = true)
    (h : s.executing = true ∨ s.fetchFails (s.ia + 4) = false) :
    ∃ n, s.afterPrefetch process = process (s.prefetched n) :=
  ⟨_, by rw [s.afterPrefetch_of_kept process alive h, State.prefetched, ← s.prefetch_spec h]⟩

theorem State.doubleBusFault_faulted (s : State) : DoubleBusFaulted s s.doubleBusFault s.ctl := by
  obtain ⟨regs, ccr, pkpc, mac, ctl, mem, out, -⟩ := s.doubleBusFault_spec
  exact ⟨regs, ccr, pkpc, mac, ctl, .of_mem mem, out⟩

theorem State.executing_eq_false_iff (s : State) : s.executing = false ↔ s.ctl.berrWindow = true := by
  simp [State.executing]

theorem State.executing_iff (s : State) : s.executing = true ↔ s.ctl.berrWindow = false := by
  simp [State.executing]

theorem State.alive_of_exceptionReady {s : State} {n : Byte} (h : s.exceptionReady n = true) : s.alive = true := by
  simp only [State.exceptionReady, Bool.and_eq_true] at h
  obtain ⟨⟨alive, -⟩, -⟩ := h
  exact alive

/-- Without an input, a running processor steps by its boundary. -/
theorem step_of_running {s : State} (inputs : s.plat.inputs = []) (run : s.ctl.run = .running) :
    step s = s.boundary := by
  rw [step_of_no_input inputs, State.stepRun, run]

/-! The branches of the boundary, in the order of 60_exceptions.md R726. -/

theorem State.boundary_busError {s : State} (latch : s.ctl.berrLatch = true) (window : s.ctl.berrWindow = false) :
    s.boundary = .next s.takeBusError := by
  simp [State.boundary, latch, window]

theorem State.boundary_breakpoint {s : State} (noBusError : s.ctl.berrLatch = false ∨ s.ctl.berrWindow = true)
    (latch : s.ctl.bkptLatch = true) : s.boundary = .next s.takeBreakpoint := by
  rcases noBusError with h | h <;> simp [State.boundary, latch, h]

theorem State.boundary_interrupt {s : State} {l : BitVec 3} (noBusError : s.ctl.berrLatch = false)
    (noBreakpoint : s.ctl.bkptLatch = false) (allowed : s.ctl.inhibit = false)
    (pending : s.pendingLevel (fieldIP s.reg.ccr) = some l) : s.boundary = .next (s.takeInterrupt l) := by
  simp [State.boundary, noBusError, noBreakpoint, allowed, pending]

theorem State.setInhibit_self {s : State} (h : s.ctl.inhibit = false) : s.setInhibit false = s := by
  rw [← h]
  rfl

/-- Where nothing is pending, or the inhibit holds interrupts off, the instruction at the boundary is executed; the
inhibit is clear from there on. -/
theorem State.boundary_executes {s : State} (noBusError : s.ctl.berrLatch = false ∨ s.ctl.berrWindow = true)
    (noBreakpoint : s.ctl.bkptLatch = false)
    (noInterrupt : s.ctl.inhibit = true ∨ s.pendingLevel (fieldIP s.reg.ccr) = none) :
    s.boundary = (s.setInhibit false).executeNext := by
  have busError : (s.ctl.berrLatch && !s.ctl.berrWindow) = false := by
    rcases noBusError with h | h <;> simp [h]
  cases inhibit : s.ctl.inhibit with
  | true => simp [State.boundary, busError, noBreakpoint, inhibit]
  | false =>
    have none := noInterrupt.resolve_left (by simp [inhibit])
    simp [State.boundary, busError, noBreakpoint, inhibit, none, State.setInhibit_self inhibit]

/-- A latched bus error, at the boundary: its prefetch comes before the window opens. -/
theorem busError_taken {s : State} (inputs : s.plat.inputs = []) (run : s.ctl.run = .running)
    (latch : s.ctl.berrLatch = true) (closed : s.executing = true) (ready : s.exceptionReady 5 = true) :
    ∃ t, step s = .next t ∧ ExceptionTaken s t (s.ia + 6) 5 [] ∧
      ControlHandler s 5 { s.ctl with berrWindow := true } t := by
  have window := s.executing_iff.mp closed
  obtain ⟨n, taken⟩ := State.afterPrefetch_eq (fun t => (t.setBerrWindow true).takeAsynchronous 5 none)
    (State.alive_of_exceptionReady ready) (.inl closed)
  obtain ⟨exception, control⟩ :=
    State.takeAsynchronous_unmasked (n := 5) (s := (s.prefetched n).setBerrWindow true) ready
  have latches : ((s.prefetched n).setBerrWindow true).ctl = { s.ctl with berrWindow := true } := by
    simp [State.setBerrWindow, State.prefetched, latch]
  rw [latches] at control
  refine ⟨_, by rw [step_of_running inputs run, State.boundary_busError latch window, State.takeBusError, taken],
    exception, control⟩

/-- A latched breakpoint without background debugging: the acknowledge cycle comes between prefetch and exception. -/
theorem breakpoint_taken {s : State} (inputs : s.plat.inputs = []) (run : s.ctl.run = .running)
    (noBusError : s.ctl.berrLatch = false ∨ s.ctl.berrWindow = true) (latch : s.ctl.bkptLatch = true)
    (disabled : s.ctl.bdmFlag = false) (ready : s.exceptionReady 4 = true)
    (kept : s.executing = true ∨ s.fetchFails (s.ia + 4) = false) :
    ∃ t, step s = .next t ∧ ExceptionTaken s.acknowledgeBreakpoint t (s.ia + 6) 4 [] ∧
      ControlHandler s 4 { s.ctl with
        bkptLatch := false, berrLatch := s.ctl.berrLatch || s.fetchFails (s.ia + 4) } t := by
  obtain ⟨n, taken⟩ := State.afterPrefetch_eq (s := s.setBkptLatch false)
    (fun t => t.acknowledgeBreakpoint.takeAsynchronous 4 none) (State.alive_of_exceptionReady ready) kept
  obtain ⟨exception, control⟩ :=
    State.takeAsynchronous_unmasked (n := 4) (s := ((s.setBkptLatch false).prefetched n).acknowledgeBreakpoint) ready
  refine ⟨_, ?_, exception, control⟩
  rw [step_of_running inputs run, State.boundary_breakpoint noBusError latch, State.takeBreakpoint, disabled]
  exact congrArg _ taken

/-- Settles O59: the bus error comes first, then the breakpoint, by whether background debugging is enabled. -/
theorem busErrorAndBreakpointTaken : Obligations.BusErrorAndBreakpointTaken := by
  intro s inputs run
  refine ⟨busError_taken inputs run, fun latch noBusError =>
    ⟨fun disabled ready kept => breakpoint_taken inputs run noBusError latch disabled ready kept,
      fun disabled opened fails => ?fault, fun enabled => ?background⟩⟩
  case fault =>
    refine ⟨_, ?_, (s.setBkptLatch false).doubleBusFault_faulted⟩
    rw [step_of_running inputs run, State.boundary_breakpoint noBusError latch, State.takeBreakpoint, disabled]
    exact congrArg _ (State.afterPrefetch_window (s.setBkptLatch false) _ (s.executing_eq_false_iff.mp opened) fails)
  case background =>
    rw [step_of_running inputs run, State.boundary_breakpoint noBusError latch, State.takeBreakpoint, enabled]
    rfl

/-- The state from which a recognised interrupt is taken: running, waiting, or stopped with a request that wakes it
(60_exceptions.md R752, R782, R783). -/
def State.Recognises (s : State) (l : BitVec 3) : Prop :=
  s.ctl.run = .running ∧ s.ctl.berrLatch = false ∧ s.ctl.bkptLatch = false ∧ s.ctl.inhibit = false ∧
      s.pendingLevel (fieldIP s.reg.ccr) = some l ∨
    s.ctl.run = .waiting ∧ s.pendingLevel (fieldIP s.reg.ccr) = some l ∨
    s.ctl.run = .stopped ∧ s.plat.stopWake = .aboveCopy ∧ s.pendingLevel s.ctl.ebiIP = some l ∨
    s.ctl.run = .stopped ∧ (∃ m, s.plat.stopWake = .levels m ∧ s.plat.irq.meets m = true) ∧
      s.pendingLevel (fieldIP s.reg.ccr) = some l

/-- From each of them the step is the interrupt, and the signals start with EXCEPTION (60_exceptions.md R812). -/
theorem State.Recognises.stepRun {s : State} {l : BitVec 3} (h : s.Recognises l) :
    s.stepRun = .next (s.takeInterrupt l) ∧
      ∀ t, s.runCycles t = interruptCycle s.prefetch.1 :: t.refillCycles := by
  have wakes {ip : BitVec 3} (pending : s.pendingLevel ip = some l)
      (idle : s.stepRun = .next (s.idleUntil ip) ∧ ∀ t, s.runCycles t = s.wakeCycles t ip) :
      s.stepRun = .next (s.takeInterrupt l) ∧
        ∀ t, s.runCycles t = interruptCycle s.prefetch.1 :: t.refillCycles := by
    obtain ⟨runs, cycles⟩ := idle
    exact ⟨by rw [runs, State.idleUntil_some pending], fun t => by rw [cycles, State.wakeCycles_some t pending]⟩
  rcases h with ⟨run, busError, breakpoint, inhibit, pending⟩ | ⟨run, pending⟩ | ⟨run, wake, pending⟩ |
    ⟨run, ⟨m, wake, met⟩, pending⟩
  · refine ⟨?_, fun t => ?_⟩
    · rw [State.stepRun, run]
      exact State.boundary_interrupt busError breakpoint inhibit pending
    · simp [State.runCycles, run, State.boundaryCycles, busError, breakpoint, inhibit, pending]
  · exact wakes pending (State.stepRun_waiting run)
  · exact wakes pending (State.stepRun_stopped_copy run wake)
  · exact wakes pending (State.stepRun_stopped_met run wake met)

/-- The vector number is what the acknowledge cycle of the level answers (60_exceptions.md R755 to R757). -/
theorem State.ackVector_of_iack {s : State} {l : BitVec 3} {r : IackResponse}
    (h : s.plat.iack[l.toNat - 1]? = some r) : s.ackVector l = vectorOf l r := by
  rw [State.ackVector, h]
  cases r <;> rfl

/-- An interrupt, after a prefetch that is no double bus fault. -/
theorem State.takeInterrupt_spec {s : State} {l : BitVec 3} {n : Byte} (vector : s.ackVector l = n)
    (ready : s.exceptionReady n = true) (kept : s.executing = true ∨ s.fetchFails (s.ia + 4) = false) :
    ExceptionTaken s (s.takeInterrupt l) (s.ia + 6) n [5, 6, 7] ∧ fieldIP (s.takeInterrupt l).reg.ccr = l ∧
      ControlHandler s n { s.ctl with
        run := .running, nmiLatch := s.ctl.nmiLatch && decide (l ≠ 7),
        berrLatch := s.ctl.berrLatch || s.fetchFails (s.ia + 4) } (s.takeInterrupt l) := by
  obtain ⟨m, taken⟩ := State.afterPrefetch_eq (s := s.setRun .running)
    (fun t => t.takeAsynchronous n (some l)) rfl kept
  have ready' : ((s.setRun .running).prefetched m).exceptionReady n = true := by
    simp only [State.exceptionReady, Bool.and_eq_true] at ready
    obtain ⟨⟨-, frame⟩, readable⟩ := ready
    exact (Bool.and_eq_true _ _).mpr ⟨frame, readable⟩
  have same : s.takeInterrupt l = ((s.setRun .running).prefetched m).takeAsynchronous n (some l) := by
    rw [State.takeInterrupt, vector]
    exact taken
  rw [same]
  exact State.takeAsynchronous_masked l ready'

/-- Settles O57: the prefetch decides between the exception and a double bus fault. -/
theorem interruptTaken : Obligations.InterruptTaken := by
  intro s l r inputs iack ready recognised a
  obtain ⟨runs, cycles⟩ := State.Recognises.stepRun recognised
  have steps : step s = .next (s.takeInterrupt l) := (step_of_no_input inputs).trans runs
  refine ⟨fun kept => ⟨_, steps, ?taken⟩, fun opened fails => ⟨_, steps, ?fault⟩⟩
  case taken =>
    obtain ⟨exception, ip, control⟩ := State.takeInterrupt_spec (State.ackVector_of_iack iack) ready kept
    have signals := (State.pipeCycles_of_next inputs steps).trans (cycles _)
    exact ⟨exception, ip, control, _, signals, rfl, rfl, fun known => congrArg some (s.prefetch_word known)⟩
  case fault =>
    rw [State.takeInterrupt,
      State.afterPrefetch_window (s.setRun .running) _ (s.executing_eq_false_iff.mp opened) fails]
    exact (s.setRun .running).doubleBusFault_faulted

end Sys2Proof.Machine

/-! ### The instruction at a quiet boundary (60_exceptions.md R726, R732, R770, 70_reset_and_hazards.md R842) -/

namespace Sys2Proof.Machine

theorem State.quiet_iff (s : State) :
    s.quiet = true ↔ s.plat.inputs = [] ∧ s.ctl.run = .running ∧ s.ctl.bkptLatch = false := by
  simp [State.quiet, and_assoc]

/-- At a quiet boundary a step executes the instruction there. -/
theorem step_of_quiet {s : State} (quiet : s.quiet = true)
    (noBusError : s.ctl.berrLatch = false ∨ s.ctl.berrWindow = true)
    (noInterrupt : s.ctl.inhibit = true ∨ s.pendingLevel (fieldIP s.reg.ccr) = none) :
    step s = (s.setInhibit false).executeNext := by
  obtain ⟨inputs, run, noBreakpoint⟩ := s.quiet_iff.mp quiet
  rw [step_of_running inputs run, State.boundary_executes noBusError noBreakpoint noInterrupt]

theorem State.alive_of_quiet {s : State} (quiet : s.quiet = true) : s.alive = true := by
  obtain ⟨-, run, -⟩ := s.quiet_iff.mp quiet
  simp [State.alive, run]

/-- The three words that memory or a bus error answers at the instruction, run from `u`. -/
def State.runFetched (s u : State) : Result :=
  u.runWords (s.fetchedWord s.ia) (s.fetchedWord (s.ia + 2)) (s.fetchedWord (s.ia + 4))

/-- Outside the window the words run after their fetch, which sets the BERR latch if one of them fails. -/
theorem State.executeNext_executing {s : State} (alive : s.alive = true) (known : s.fetchKnown = true)
    (closed : s.ctl.berrWindow = false) (latch : s.ctl.berrLatch = false) :
    s.executeNext = s.runFetched (s.setBerrLatch s.fetchBroken) := by
  have fetched := s.fetch_executing (s.executing_iff.mpr closed) alive known
  rw [latch, Bool.false_or] at fetched
  have alive' : (s.setBerrLatch s.fetchBroken).alive = true := alive
  have closed' : (s.setBerrLatch s.fetchBroken).closeWindow = s.setBerrLatch s.fetchBroken :=
    if_neg (by simp [closed])
  simp only [State.executeNext, fetched, alive', if_true, closed', State.runFetched]

/-- A word that no bus error answers. -/
theorem State.fetchedWord_of_answered {s : State} {a : Addr} (h : s.fetchFails a = false) :
    s.fetchedWord a = s.progWord a := by
  rw [State.fetchedWord, h, if_neg Bool.false_ne_true]

/-- In the window, where every fetch answers, they run once the window is closed and the latch is clear. -/
theorem State.executeNext_window {s : State} (alive : s.alive = true) (known : s.fetchKnown = true)
    (opened : s.ctl.berrWindow = true) (answered : s.fetchBroken = false) :
    s.executeNext = s.runFetched ((s.setBerrLatch false).setBerrWindow false) := by
  have fetched := s.fetch_memory alive known answered
  have closes : s.closeWindow = (s.setBerrLatch false).setBerrWindow false := if_pos opened
  simp only [State.fetchBroken, Bool.or_eq_false_iff] at answered
  obtain ⟨⟨f0, f1⟩, f2⟩ := answered
  simp only [State.executeNext, fetched, alive, if_true, closes, State.runFetched, State.fetchedWord_of_answered f0,
    State.fetchedWord_of_answered f1, State.fetchedWord_of_answered f2]

/-- In the window a fetch that fails is a double bus fault, and nothing runs. -/
theorem State.executeNext_fault {s : State} (alive : s.alive = true) (known : s.fetchKnown = true)
    (opened : s.ctl.berrWindow = true) (broken : s.fetchBroken = true) : s.executeNext = .next s.doubleBusFault := by
  obtain ⟨-, -, -, -, -, -, -, dead⟩ := s.doubleBusFault_spec
  simp [State.executeNext, s.fetch_window opened alive known broken, dead]

theorem State.noteTag_false (s : State) : s.noteTag false = s := rfl

/-- Words that decode to an instruction run it, and the BKPT latch is set if the instruction is tagged and finished. -/
theorem State.runWords_ok {s t : State} {w0 w1 w2 : Word} {i : Instr} (decodes : decode w0 w1 w2 = .ok i)
    (fresh : s.isStale i.length = false) (runs : exec i s = .next t) :
    s.runWords w0 w1 w2 = .next (t.noteTag (inRanges s.plat.progBkpt s.ia.toNat && finished i s.pkpc t.pkpc)) := by
  simp only [State.runWords, decodes, fresh, runs, Bool.false_eq_true, if_false]

/-- Words that decode to no instruction take the exception of vector 7 (60_exceptions.md R770). -/
theorem State.runWords_error {s : State} {w0 w1 w2 : Word} {e : DecodeError} (decodes : decode w0 w1 w2 = .error e)
    (fresh : s.isStale 2 = false) :
    s.runWords w0 w1 w2 = .next ((s.takeSynchronous 7).noteTag (inRanges s.plat.progBkpt s.ia.toNat)) := by
  simp only [State.runWords, decodes, fresh, Bool.false_eq_true, if_false]

/-- The instruction fetched at the boundary runs from `u`, which differs from `s` in the control state only. -/
theorem State.runFetched_ok {s : State} {c : Control} {i : Instr}
    (decodes : decode (s.fetchedWord s.ia) (s.fetchedWord (s.ia + 2)) (s.fetchedWord (s.ia + 4)) = .ok i)
    (fresh : s.isStale i.length = false) :
    let u := { s with ctl := c }
    let tagged := inRanges s.plat.progBkpt s.ia.toNat
    (tagged = false → s.runFetched u = exec i u) ∧
    (tagged = true → ∀ t, exec i u = .next t →
      s.runFetched u = .next (if finished i u.pkpc t.pkpc then t.setBkptLatch true else t)) := by
  intro u tagged
  have runs {t : State} (h : exec i u = .next t) :
      s.runFetched u = .next (t.noteTag (tagged && finished i u.pkpc t.pkpc)) :=
    State.runWords_ok decodes fresh h
  refine ⟨fun untagged => ?_, fun tag t h => ?_⟩
  · obtain ⟨t, h⟩ := exec_answers i u
    rw [runs h, h, untagged, Bool.false_and, State.noteTag_false]
  · rw [runs h, tag, Bool.true_and, State.noteTag]

/-- A step at a quiet boundary outside the window. -/
theorem step_runs_outside {s : State} (quiet : s.quiet = true)
    (noInterrupt : s.ctl.inhibit = true ∨ s.pendingLevel (fieldIP s.reg.ccr) = none) (known : s.fetchKnown = true)
    (closed : s.ctl.berrWindow = false) (latch : s.ctl.berrLatch = false) :
    step s = s.runFetched ((s.setInhibit false).setBerrLatch s.fetchBroken) :=
  (step_of_quiet quiet (.inl latch) noInterrupt).trans
    (State.executeNext_executing (s := s.setInhibit false) (State.alive_of_quiet quiet) known closed latch)

/-- A step at a quiet boundary in the window, where every fetch answers. -/
theorem step_runs_inside {s : State} (quiet : s.quiet = true)
    (noInterrupt : s.ctl.inhibit = true ∨ s.pendingLevel (fieldIP s.reg.ccr) = none) (known : s.fetchKnown = true)
    (opened : s.ctl.berrWindow = true) (answered : s.fetchBroken = false) :
    step s = s.runFetched (((s.setInhibit false).setBerrLatch false).setBerrWindow false) :=
  (step_of_quiet quiet (.inr opened) noInterrupt).trans
    (State.executeNext_window (s := s.setInhibit false) (State.alive_of_quiet quiet) known opened answered)

/-- Settles O5: outside the window, inside it, and where a fetch inside it fails. -/
theorem stepRunsDecodedInstruction : Obligations.StepRunsDecodedInstruction := by
  refine ⟨?runs, ?fault⟩
  case runs =>
    intro s i quiet noInterrupt known decodes fresh tagged ready closed
    have outside := step_runs_outside quiet noInterrupt known
    have inside := step_runs_inside quiet noInterrupt known
    obtain ⟨untagged, tag⟩ := State.runFetched_ok (c := ready.ctl) decodes fresh
    obtain ⟨untagged', tag'⟩ := State.runFetched_ok (c := closed.ctl) decodes fresh
    exact ⟨fun h => ⟨fun w l => (outside w l).trans (untagged h), fun w a => (inside w a).trans (untagged' h)⟩,
      fun h t => ⟨fun w l runs => (outside w l).trans (tag h t runs),
        fun w a runs => (inside w a).trans (tag' h t runs)⟩⟩
  case fault =>
    intro s quiet noInterrupt known opened broken
    refine ⟨_, ?_, (s.setInhibit false).doubleBusFault_faulted⟩
    rw [step_of_quiet quiet (.inr opened) noInterrupt]
    exact State.executeNext_fault (s := s.setInhibit false) (State.alive_of_quiet quiet) known opened broken

/-- The tag of an instruction sets the BKPT latch and nothing else. -/
theorem ExceptionTaken.noteTag {s t : State} {r : Addr} {n : Byte} {bits : List Nat} (h : ExceptionTaken s t r n bits)
    (tagged : Bool) : ExceptionTaken s (t.noteTag tagged) r n bits := by
  unfold State.noteTag
  split <;> exact h

theorem ControlHandler.noteTag {s t : State} {n : Byte} {c : Control} (h : ControlHandler s n c t)
    (clear : c.bkptLatch = false) (tagged : Bool) :
    ControlHandler s n { c with bkptLatch := tagged } (t.noteTag tagged) := by
  unfold ControlHandler at *
  cases tagged with
  | true =>
    rw [State.noteTag, if_pos rfl, State.setBkptLatch, h]
    simp
  | false =>
    rw [State.noteTag_false, h, clear]

/-- The illegal instruction exception from a state that differs from `s` in the control state only. -/
theorem illegalInstruction_taken {s : State} {c : Control} {e : DecodeError}
    (decodes : decode (s.fetchedWord s.ia) (s.fetchedWord (s.ia + 2)) (s.fetchedWord (s.ia + 4)) = .error e)
    (fresh : s.isStale 2 = false) (ready : s.exceptionReady 7 = true) (run : c.run = s.ctl.run)
    (clear : c.bkptLatch = false) :
    ∃ t, s.runFetched { s with ctl := c } = .next t ∧ ExceptionTaken s t (s.ia + 8) 7 [] ∧
      ControlHandler s 7 { c with bkptLatch := inRanges s.plat.progBkpt s.ia.toNat } t := by
  have ready' : State.exceptionReady { s with ctl := c } 7 = true := by
    have alive : State.alive { s with ctl := c } = s.alive := State.alive_congr run
    rw [State.exceptionReady, alive]
    exact ready
  obtain ⟨exception, control⟩ := State.takeSynchronous_spec ready'
  exact ⟨_, State.runWords_error decodes fresh, exception.noteTag _, control.noteTag clear _⟩

/-- Settles O6: the same boundaries as for an instruction, with the exception in its place. -/
theorem illegalInstruction : Obligations.IllegalInstruction := by
  intro s quiet noInterrupt known decodes fresh ready tagged
  obtain ⟨-, -, clear⟩ := s.quiet_iff.mp quiet
  refine ⟨fun window latch => ?outside, fun window answered => ?inside⟩
  case outside =>
    obtain ⟨t, runs, taken⟩ := illegalInstruction_taken
      (c := { s.ctl with inhibit := false, berrLatch := s.fetchBroken }) decodes fresh ready rfl clear
    exact ⟨t, (step_runs_outside quiet noInterrupt known window latch).trans runs, taken⟩
  case inside =>
    obtain ⟨t, runs, taken⟩ := illegalInstruction_taken
      (c := { s.ctl with inhibit := false, berrLatch := false, berrWindow := false }) decodes fresh ready rfl clear
    exact ⟨t, (step_runs_inside quiet noInterrupt known window answered).trans runs, taken⟩

end Sys2Proof.Machine

/-! ### Background debugging mode: commands, their replies and what they leave (60_exceptions.md R797 to R808) -/

namespace Sys2Proof.Machine

theorem step_of_background {s : State} (inputs : s.plat.inputs = []) (run : s.ctl.run = .background) :
    step s = .next s.debugStep := by
  rw [step_of_no_input inputs, State.stepRun, run]

/-! What a command leaves is built up from the words that it takes and the replies that it sends. -/

theorem Commanded.setBdmIn (s : State) (ws : List Word) : Commanded s (s.setBdmIn ws) s.reg s.mac ws [] :=
  ⟨rfl, rfl, rfl, by rw [List.append_nil]; rfl, .of_mem rfl, rfl⟩

theorem Commanded.takeWords (s : State) (n : Nat) (ws : List Word) :
    Commanded s (s.takeWords n ws) s.reg s.mac ws (List.replicate n 0x10000) :=
  ⟨rfl, rfl, rfl, rfl, .of_mem rfl, rfl⟩

section
variable {s t : State} {r : Regs} {m : Mac} {ws : List Word} {replies : List (BitVec 17)}

theorem Commanded.reply (h : Commanded s t r m ws replies) (w : BitVec 17) :
    Commanded s (t.reply w) r m ws (replies ++ [w]) := by
  obtain ⟨reg, mac, ctl, plat, data, prog⟩ := h
  refine ⟨reg, mac, ctl, ?_, data, prog⟩
  rw [State.reply, plat, List.append_assoc]

theorem Commanded.setFree (h : Commanded s t r m ws replies) (n : Nat) :
    Commanded s { t with free := n } r m ws replies :=
  h

theorem Commanded.setReg (h : Commanded s t r m ws replies) (r' : Regs) :
    Commanded s { t with reg := r' } r' m ws replies := by
  obtain ⟨-, rest⟩ := h
  exact ⟨rfl, rest⟩

theorem Commanded.setMac (h : Commanded s t r m ws replies) (m' : Mac) :
    Commanded s { t with mac := m' } r m' ws replies := by
  obtain ⟨reg, -, rest⟩ := h
  exact ⟨reg, rfl, rest⟩

/-- The words that a mask selects are sent, in order. -/
theorem Commanded.replySelected (h : Commanded s t r m ws replies) (mask : Word) (sel : List (Nat × Word)) :
    Commanded s (sel.foldl (fun u e => if mask.getLsbD e.1 then u.replyData e.2 else u) t) r m ws
      (replies ++ sel.filterMap fun e => if mask.getLsbD e.1 then some (0#1 ++ e.2) else none) := by
  induction sel generalizing t replies with
  | nil => simpa using h
  | cons e sel ih =>
    rw [List.foldl_cons, List.filterMap_cons]
    cases selected : mask.getLsbD e.1 with
    | true =>
      have sent : Commanded s (t.replyData e.2) r m ws (replies ++ [0#1 ++ e.2]) := h.reply _
      simpa using ih sent
    | false => simpa using ih h

end

/-! Registers (R802, R804) -/

/-- RREGM's words by their bits of the mask; the low nibble of the CCR's is free. -/
def State.registerWords (s : State) (x : Ext) : List (Nat × Word) :=
  [(0, BitVec.extractLsb' 4 12 s.reg.ccr ++ x), (1, s.k), (2, s.reg.iz), (3, s.reg.iy), (4, s.reg.ix), (5, s.reg.e),
    (6, s.d)]

theorem State.readRegisters_eq (s : State) (mask : Word) : ∃ (n : Nat) (x : Ext), s.readRegisters mask =
    State.replyComplete ((s.registerWords x).foldl (fun u e => if mask.getLsbD e.1 then u.replyData e.2 else u)
      { s with free := n }) := by
  refine ⟨if mask.getLsbD 0 then s.free + 1 else s.free, nib0 (Config.freeWord s.free), ?_⟩
  cases ccr : mask.getLsbD 0 <;>
    simp only [State.readRegisters, State.registerWords, List.foldl_cons, List.foldl_nil, ccr] <;> rfl

theorem debugStep_rregm {s : State} {mask : Word} {ws : List Word} (h : s.plat.bdmIn = 0x1780 :: mask :: ws) :
    ∃ x, Commanded s s.debugStep s.reg s.mac ws (List.replicate 1 0x10000 ++
      (((s.registerWords x).filterMap fun e => if mask.getLsbD e.1 then some (0#1 ++ e.2) else none) ++
        [0x0FFFF])) := by
  obtain ⟨n, x, sent⟩ := (s.takeWords 1 ws).readRegisters_eq mask
  have runs : s.debugStep = (s.takeWords 1 ws).readRegisters mask := by
    rw [State.debugStep, h]
    rfl
  refine ⟨x, ?_⟩
  rw [runs, sent, ← List.append_assoc]
  exact (((Commanded.takeWords s 1 ws).setFree n).replySelected mask (s.registerWords x)).reply 0x0FFFF

theorem debugStep_rpcsp {s : State} {ws : List Word} (h : s.plat.bdmIn = 0x1782 :: ws) :
    ∃ x y : BitVec 12, Commanded s s.debugStep s.reg s.mac ws
      [0#1 ++ (x ++ s.pk : Word), 0#1 ++ s.reg.pc, 0#1 ++ (y ++ s.reg.sk : Word), 0#1 ++ s.reg.sp] := by
  have runs : s.debugStep = (s.setBdmIn ws).readPcSp := by
    rw [State.debugStep, h]
    rfl
  rw [runs]
  exact ⟨_, _, (((((Commanded.setBdmIn s ws).setFree (s.free + 2)).reply _).reply _).reply _).reply _⟩

theorem bank_evenAddr_pair (k : Ext) (r : Word) : bank (evenAddr (pair k r)) = k := by
  rw [evenAddr, bank, BitVec.extractLsb'_and]
  have ones : BitVec.extractLsb' 16 4 (0xFFFFE#20) = BitVec.allOnes 4 := by decide
  rw [ones, BitVec.and_allOnes]
  exact bank_pair k r

theorem offset_evenAddr_pair (k : Ext) (r : Word) : offset (evenAddr (pair k r)) = r &&& 0xFFFE := by
  rw [evenAddr, offset, BitVec.extractLsb'_and]
  exact congrArg (· &&& 0xFFFE#16) (offset_pair k r)

theorem debugStep_wpcsp {s : State} {pk pc sk sp : Word} {ws : List Word}
    (h : s.plat.bdmIn = 0x1783 :: pk :: pc :: sk :: sp :: ws) :
    Commanded s s.debugStep
      { s.reg with pc := pc &&& 0xFFFE, ccr := withPK (nib0 pk) s.reg.ccr, sk := nib0 sk, sp := sp } s.mac ws
      (List.replicate 4 0x10000 ++ [0x0FFFF]) := by
  have runs : s.debugStep = ({ s.takeWords 4 ws with reg := { s.reg with
      pc := pc &&& 0xFFFE, ccr := withPK (nib0 pk) s.reg.ccr, sk := nib0 sk, sp := sp } } : State).replyComplete := by
    have loaded : s.debugStep = (((s.takeWords 4 ws).setPkpc (evenAddr (pair (nib0 pk) pc))).setSksp
        (pair (nib0 sk) sp)).replyComplete := by
      rw [State.debugStep, h]
      rfl
    rw [loaded, State.setSksp, State.setPkpc, offset_evenAddr_pair, bank_evenAddr_pair, bank_pair, offset_pair]
    rfl
  rw [runs]
  exact ((Commanded.takeWords s 4 ws).setReg _).reply 0x0FFFF

/-! Memory (R805, R806) -/

/-- The size bits of RDMEM and WDMEM: a byte, a word or, with bit 15, a long word (R805). -/
theorem size_cases (z : BitVec 2) (x : BitVec 10) (b : Ext) :
    (z ++ x ++ b : Word).getLsbD 15 = false ∧ (z ++ x ++ b : Word).getLsbD 14 = false ∧ z = 0 ∨
    (z ++ x ++ b : Word).getLsbD 15 = false ∧ (z ++ x ++ b : Word).getLsbD 14 = true ∧ z = 1 ∨
    (z ++ x ++ b : Word).getLsbD 15 = true ∧ z ≠ 0 ∧ z ≠ 1 := by
  have high : (z ++ x ++ b : Word).getLsbD 15 = z.getLsbD 1 := by
    simp only [BitVec.getLsbD_append]
    rfl
  have low : (z ++ x ++ b : Word).getLsbD 14 = z.getLsbD 0 := by
    simp only [BitVec.getLsbD_append]
    rfl
  have sizes : ∀ z : BitVec 2, z.getLsbD 1 = false ∧ z.getLsbD 0 = false ∧ z = 0 ∨
      z.getLsbD 1 = false ∧ z.getLsbD 0 = true ∧ z = 1 ∨ z.getLsbD 1 = true ∧ z ≠ 0 ∧ z ≠ 1 := by decide
  rw [high, low]
  exact sizes z

theorem nib0_append (x : BitVec 12) (b : Ext) : nib0 (x ++ b) = b := by
  apply BitVec.eq_of_getLsbD_eq
  intro k hk
  simp only [nib0, BitVec.getLsbD_append, BitVec.getLsbD_extractLsb']
  grind

/-- The address that the two extension words name. -/
theorem debugAddr_append (x : BitVec 12) (b : Ext) (o : Word) : debugAddr (x ++ b) o = pair b o := by
  rw [debugAddr, nib0_append]

theorem readable_of_readableFrom_one {s : State} {a : Addr} (h : s.readableFrom a 1 = true) : s.readable a = true := by
  simpa [State.readableFrom] using h

theorem debugStep_rdmem {s : State} {z : BitVec 2} {x : BitVec 10} {b : Ext} {o : Word} {ws : List Word}
    (h : s.plat.bdmIn = 0x1784 :: (z ++ x ++ b) :: o :: ws)
    (answers : s.readableFrom (pair b o) (if z = 0 then 1 else if z = 1 then 2 else 4) = true) :
    Commanded s s.debugStep s.reg s.mac ws (List.replicate 2 0x10000 ++
      if z = 0 then [0#1 ++ word 0xFF (s.dataByte (pair b o))]
      else if z = 1 then [0#1 ++ s.dataWord (pair b o)]
      else [0#1 ++ s.dataWord (pair b o), 0#1 ++ s.dataWord (pair b o + 2)]) := by
  have runs : s.debugStep = (s.takeWords 2 ws).readData (z ++ x ++ b) o := by
    rw [State.debugStep, h]
    rfl
  have address : debugAddr (z ++ x ++ b) o = pair b o := debugAddr_append _ b o
  have taken := Commanded.takeWords s 2 ws
  rw [runs, State.readData, address]
  generalize pair b o = a at *
  rcases size_cases z x b with ⟨high, low, rfl⟩ | ⟨high, low, rfl⟩ | ⟨high, ne0, ne1⟩
  · rw [high, low, (s.takeWords 2 ws).debugRead8_memory a (readable_of_readableFrom_one answers)]
    exact taken.reply _
  · obtain ⟨r0, r1⟩ := readable_of_readableFrom_two answers
    rw [high, low, (s.takeWords 2 ws).debugRead16_memory a r0 r1]
    exact taken.reply _
  · rw [if_neg ne0, if_neg ne1] at *
    obtain ⟨r0, r1, r2, r3⟩ := readable_of_readableFrom_four answers
    simp only [high, if_true, (s.takeWords 2 ws).debugRead16_memory a r0 r1,
      (s.takeWords 2 ws).debugRead16_memory (a + 2) r2 r3]
    have sent := (taken.reply (0#1 ++ s.dataWord a)).reply (0#1 ++ s.dataWord (a + 2))
    rw [List.append_assoc] at sent
    exact sent

/-- Command complete after a store of data space. -/
theorem debugStored {s u : State} {n : Nat} {ws : List Word} {cells : List (Addr × Byte)}
    (only : ∃ mem, u = { s.takeWords n ws with mem := mem }) (stores : StoresCells (s.takeWords n ws) u cells) :
    u.replyComplete.reg = s.reg ∧ u.replyComplete.mac = s.mac ∧ u.replyComplete.ctl = s.ctl ∧
      u.replyComplete.plat =
        { s.plat with bdmIn := ws, bdmOut := s.plat.bdmOut ++ (List.replicate n 0x10000 ++ [0x0FFFF]) } ∧
      u.replyComplete.prog = s.prog ∧ StoresCells s u.replyComplete cells := by
  have stored : StoresCells s u.replyComplete cells := stores
  obtain ⟨mem, rfl⟩ := only
  refine ⟨rfl, rfl, rfl, ?_, rfl, stored⟩
  rw [← List.append_assoc]
  rfl

theorem StoresByte.storesCells {s t : State} {a : Addr} {v : Byte} (stored : StoresByte s t a v) :
    StoresCells s t [(a, v)] := by
  intro b
  rw [stored b]
  by_cases here : b = a
  · subst here
    simp
  · simp [here, Ne.symm here]

/-- WDMEM of a byte or a word, by bit 14 of the first extension word. -/
theorem debugStep_wdmem_short {s : State} {w1 w2 w3 : Word} {ws : List Word}
    (h : s.plat.bdmIn = 0x1785 :: w1 :: w2 :: w3 :: ws) (short : w1.getLsbD 15 = false) :
    s.debugStep = State.replyComplete
      (if w1.getLsbD 14 then (s.takeWords 3 ws).debugWrite16 (debugAddr w1 w2) w3
        else (s.takeWords 3 ws).debugWrite8 (debugAddr w1 w2) (lo w3)) := by
  rw [apply_ite State.replyComplete, State.debugStep, h]
  exact if_neg (Bool.eq_false_iff.mp short)

/-- WDMEM of a long word, by bit 15; it takes one more word. -/
theorem debugStep_wdmem_long {s : State} {w1 w2 w3 w4 : Word} {ws : List Word}
    (h : s.plat.bdmIn = 0x1785 :: w1 :: w2 :: w3 :: w4 :: ws) (long : w1.getLsbD 15 = true) :
    s.debugStep = (((s.takeWords 4 ws).debugWrite16 (debugAddr w1 w2) w3).debugWrite16
      (debugAddr w1 w2 + 2) w4).replyComplete := by
  rw [State.debugStep, h]
  exact if_pos long

theorem debugStep_wdmem {s : State} {z : BitVec 2} {x : BitVec 10} {b : Ext} {o v w : Word} {ws : List Word}
    (h : s.plat.bdmIn = 0x1785 :: (z ++ x ++ b) :: o :: v :: ((if z = 0 ∨ z = 1 then [] else [w]) ++ ws)) :
    s.debugStep.reg = s.reg ∧ s.debugStep.mac = s.mac ∧ s.debugStep.ctl = s.ctl ∧
      s.debugStep.plat = { s.plat with
        bdmIn := ws, bdmOut := s.plat.bdmOut ++
          (List.replicate (3 + (if z = 0 ∨ z = 1 then [] else [w]).length) 0x10000 ++ [0x0FFFF]) } ∧
      s.debugStep.prog = s.prog ∧
      StoresCells s s.debugStep (if z = 0 then [(pair b o, lo v)]
        else if z = 1 then [(pair b o, hi v), (pair b o + 1, lo v)]
        else [(pair b o, hi v), (pair b o + 1, lo v), (pair b o + 2, hi w), (pair b o + 3, lo w)]) := by
  have address : debugAddr (z ++ x ++ b) o = pair b o := debugAddr_append _ b o
  generalize pair b o = a at *
  rcases size_cases z x b with ⟨high, low, rfl⟩ | ⟨high, low, rfl⟩ | ⟨high, ne0, ne1⟩
  · have runs : s.debugStep = ((s.takeWords 3 ws).debugWrite8 a (lo v)).replyComplete := by
      rw [debugStep_wdmem_short h high, low, address]
      rfl
    obtain ⟨only, stored⟩ := (s.takeWords 3 ws).debugWrite8_spec a (lo v)
    rw [runs]
    exact debugStored only stored.storesCells
  · have runs : s.debugStep = ((s.takeWords 3 ws).debugWrite16 a v).replyComplete := by
      rw [debugStep_wdmem_short h high, low, address]
      rfl
    obtain ⟨only, stored⟩ := (s.takeWords 3 ws).debugWrite16_spec a v
    rw [runs]
    exact debugStored only stored.storesCells
  · rw [if_neg (not_or.mpr ⟨ne0, ne1⟩)] at *
    rw [if_neg ne0, if_neg ne1]
    have runs : s.debugStep = (((s.takeWords 4 ws).debugWrite16 a v).debugWrite16 (a + 2) w).replyComplete := by
      rw [debugStep_wdmem_long (ws := ws) h high, address]
    obtain ⟨⟨m, first⟩, stored⟩ := (s.takeWords 4 ws).debugWrite16_spec a v
    obtain ⟨⟨m', second⟩, stored'⟩ := ((s.takeWords 4 ws).debugWrite16 a v).debugWrite16_spec (a + 2) w
    have kept : BusKept (s.takeWords 4 ws) ((s.takeWords 4 ws).debugWrite16 a v) := by
      rw [first]
      exact ⟨rfl, rfl, rfl, rfl, rfl⟩
    rw [runs]
    exact debugStored (n := 4) ⟨m', by rw [second, first]⟩ (stored.storesCells_long kept stored')

theorem debugStep_rpmem {s : State} {x : BitVec 12} {b : Ext} {o : Word} {ws : List Word}
    (h : s.plat.bdmIn = 0x1786 :: (x ++ b) :: o :: ws) (answers : s.fetchable (evenAddr (pair b o)) = true) :
    Commanded s s.debugStep s.reg s.mac ws
      (List.replicate 2 0x10000 ++ [0#1 ++ s.progWord (evenAddr (pair b o))]) := by
  have read := (s.takeWords 2 ws).debugReadProg_memory (pair b o) answers
  have runs : s.debugStep = ((s.takeWords 2 ws).debugReadProg (pair b o)).2.replyData
      ((s.takeWords 2 ws).debugReadProg (pair b o)).1 := by
    rw [← debugAddr_append x b o, State.debugStep, h]
    rfl
  rw [runs, read]
  exact (Commanded.takeWords s 2 ws).reply _

theorem debugStep_wpmem {s : State} {x : BitVec 12} {b : Ext} {o v : Word} {ws : List Word}
    (h : s.plat.bdmIn = 0x1787 :: (x ++ b) :: o :: v :: ws) :
    s.debugStep.reg = s.reg ∧ s.debugStep.mac = s.mac ∧ s.debugStep.ctl = s.ctl ∧
      s.debugStep.plat =
        { s.plat with bdmIn := ws, bdmOut := s.plat.bdmOut ++ (List.replicate 3 0x10000 ++ [0x0FFFF]) } ∧
      StoresProgWord s s.debugStep (kindAt s.plat.progMap (evenAddr (pair b o)).toNat == .ram)
        (evenAddr (pair b o)) v := by
  obtain ⟨⟨m, p, only, -⟩, stored⟩ := (s.takeWords 3 ws).debugWriteProg_spec (pair b o) v
  have runs : s.debugStep = ((s.takeWords 3 ws).debugWriteProg (pair b o) v).replyComplete := by
    rw [← debugAddr_append x b o, State.debugStep, h]
    rfl
  have stored' : StoresProgWord s s.debugStep (kindAt s.plat.progMap (evenAddr (pair b o)).toNat == .ram)
      (evenAddr (pair b o)) v := by
    rw [runs]
    exact stored
  rw [← List.append_assoc]
  refine ⟨?_, ?_, ?_, ?_, stored'⟩ <;> rw [runs, only] <;> rfl

end Sys2Proof.Machine

/-! ### WREGM: the words of a mask, written in order (60_exceptions.md R802) -/

namespace Sys2Proof.Machine

theorem writeRegisters_append (fs gs : List (State → Word → State)) (ws : List Word) (s : State) :
    writeRegisters (fs ++ gs) ws s = (writeRegisters fs ws s).bind fun r => writeRegisters gs r.1 r.2 := by
  induction fs generalizing ws s with
  | nil => rfl
  | cons f fs ih =>
    cases ws with
    | nil => rfl
    | cons w ws => exact ih ws (f s w)

/-- How many of the registers below bit `k` a mask selects: the place of that register's word among those that come. -/
def wordsBelow (mask : Word) (k : Nat) : Nat := (List.range k).countP fun j => mask.getLsbD j

/-- The word that register `k` holds after WREGM: its own of `vs` if the mask selects it, else the old one. -/
def selectedWord (mask : Word) (vs : List Word) (k : Nat) (old : Word) : Word :=
  if mask.getLsbD k then vs.getD (wordsBelow mask k) 0 else old

theorem wordsBelow_succ (mask : Word) (k : Nat) :
    wordsBelow mask (k + 1) = wordsBelow mask k + if mask.getLsbD k then 1 else 0 := by
  rw [wordsBelow, List.range_succ, List.countP_append, List.countP_singleton]
  rfl

theorem wordsBelow_mono (mask : Word) {j k : Nat} (h : j ≤ k) : wordsBelow mask j ≤ wordsBelow mask k :=
  (List.range_sublist.mpr h).countP_le

/-- One register of WREGM: it takes its word from those that are left, or none, and holds `selectedWord`; writing `old`
would change nothing. -/
theorem writeRegisters_one {mask : Word} {vs : List Word} (rest : List Word) {k : Nat}
    (fit : wordsBelow mask (k + 1) ≤ vs.length) {f : State → Word → State} {s : State} {old : Word}
    (same : f s old = s) :
    writeRegisters (if mask.getLsbD k then [f] else []) (vs.drop (wordsBelow mask k) ++ rest) s =
      some (vs.drop (wordsBelow mask (k + 1)) ++ rest, f s (selectedWord mask vs k old)) := by
  rw [wordsBelow_succ] at *
  rw [selectedWord]
  generalize wordsBelow mask k = n at *
  cases selected : mask.getLsbD k with
  | false => simp [writeRegisters, same]
  | true =>
    have inside : n < vs.length := by
      rw [selected] at fit
      exact fit
    have word : vs.getD n 0 = vs[n] := congrArg (·.getD 0) (List.getElem?_eq_getElem inside)
    rw [List.drop_eq_getElem_cons inside, word]
    rfl

theorem State.writeCcr_self (s : State) : s.writeCcr (withUpper12 s.reg.ccr s.reg.ccr) = s := by
  rw [withUpper12_self, State.writeCcr, if_neg fun ⟨seven, lower, _⟩ => lower seven]
  rfl

theorem State.setK_self {s : State} {v : Word} (h : s.k = v) : s.setK v = s := by
  obtain ⟨ek, xk, yk, zk⟩ := extractLsb'_k s
  rw [← h, State.setK, ek, xk, yk, zk]

theorem State.setIZ_self {s : State} {v : Word} (h : s.reg.iz = v) : s.setIZ v = s := by rw [← h]; rfl
theorem State.setIY_self {s : State} {v : Word} (h : s.reg.iy = v) : s.setIY v = s := by rw [← h]; rfl
theorem State.setIX_self {s : State} {v : Word} (h : s.reg.ix = v) : s.setIX v = s := by rw [← h]; rfl
theorem State.setE_self {s : State} {v : Word} (h : s.reg.e = v) : s.setE v = s := by rw [← h]; rfl

theorem State.setD_self {s : State} {v : Word} (h : s.d = v) : s.setD v = s := by
  rw [← h, State.setD, State.d, hi_word, lo_word]

/-- What WREGM's writes leave, each register with its `selectedWord`. -/
def State.registersWritten (s : State) (mask : Word) (vs : List Word) : State :=
  let pick := selectedWord mask vs
  (((((((s.writeCcr (withUpper12 (pick 0 s.reg.ccr) s.reg.ccr)).setK (pick 1 s.k)).setIZ (pick 2 s.reg.iz)).setIY
    (pick 3 s.reg.iy)).setIX (pick 4 s.reg.ix)).setE (pick 5 s.reg.e)).setD (pick 6 s.d))

theorem writeRegisters_selected {mask : Word} {vs : List Word} (rest : List Word) (s : State)
    (all : vs.length = wordsBelow mask 7) :
    writeRegisters (selectedWriters mask) (vs ++ rest) s = some (rest, s.registersWritten mask vs) := by
  obtain ⟨reg, -⟩ := s.writeCcr_spec (withUpper12 (selectedWord mask vs 0 s.reg.ccr) s.reg.ccr)
  have fit (k : Nat) (hk : k + 1 ≤ 7) : wordsBelow mask (k + 1) ≤ vs.length := all ▸ wordsBelow_mono mask hk
  have start : vs ++ rest = vs.drop (wordsBelow mask 0) ++ rest := rfl
  have finish : vs.drop (wordsBelow mask 7) ++ rest = rest := by rw [← all, List.drop_length, List.nil_append]
  rw [selectedWriters, start]
  simp only [writeRegisters_append]
  rw [writeRegisters_one (f := fun t w => t.writeCcr (withUpper12 w t.reg.ccr)) rest (fit 0 (by decide))
      s.writeCcr_self, Option.bind_some,
    writeRegisters_one (old := s.k) rest (fit 1 (by decide)) (State.setK_self (by rw [State.k, reg]; rfl)),
    Option.bind_some,
    writeRegisters_one (old := s.reg.iz) rest (fit 2 (by decide)) (State.setIZ_self (by simp [reg])), Option.bind_some,
    writeRegisters_one (old := s.reg.iy) rest (fit 3 (by decide)) (State.setIY_self (by simp [reg])), Option.bind_some,
    writeRegisters_one (old := s.reg.ix) rest (fit 4 (by decide)) (State.setIX_self (by simp [reg])), Option.bind_some,
    writeRegisters_one (old := s.reg.e) rest (fit 5 (by decide)) (State.setE_self (by simp [reg])), Option.bind_some,
    writeRegisters_one (old := s.d) rest (fit 6 (by decide)) (State.setD_self (by simp [State.d, reg])), finish]
  rfl

theorem State.registersWritten_spec (s : State) (mask : Word) (vs : List Word) :
    let pick := selectedWord mask vs
    let k := pick 1 s.k
    let u := s.registersWritten mask vs
    u.reg = { (s.reg.withED (pick 5 s.reg.e) (pick 6 s.d)) with
      ccr := withPK s.pk (pick 0 s.reg.ccr), ek := BitVec.extractLsb' 12 4 k, xk := BitVec.extractLsb' 8 4 k,
      yk := BitVec.extractLsb' 4 4 k, zk := BitVec.extractLsb' 0 4 k, iz := pick 2 s.reg.iz, iy := pick 3 s.reg.iy,
      ix := pick 4 s.reg.ix } ∧
    u.mac = s.mac ∧ u.mem = s.mem ∧ u.ctl = { s.ctl with nmiLatch := nmiAfter s u } ∧ OutsideKept s u := by
  obtain ⟨reg, mac, mem, ctl, out⟩ := s.writeCcr_spec (withUpper12 (selectedWord mask vs 0 s.reg.ccr) s.reg.ccr)
  simp only [State.registersWritten]
  generalize s.writeCcr _ = u at *
  refine ⟨?reg, mac, mem, ctl.trans ?latch, out⟩
  case reg =>
    simp only [State.reg_setD, State.reg_setE, State.reg_setIX, State.reg_setIY, State.reg_setIZ, State.reg_setK, reg]
    rfl
  case latch => exact congrArg (fun latch => { s.ctl with nmiLatch := latch }) (nmiAfter_congr rfl rfl rfl rfl)

/-- WREGM, where no word is missing: `r` is what its writes leave, and the words that are left over. -/
theorem debugStep_wregm_some {s : State} {mask : Word} {ws : List Word} {r : List Word × State}
    (h : s.plat.bdmIn = 0x1781 :: mask :: ws) (written : writeRegisters (selectedWriters mask) ws s = some r) :
    s.debugStep = (r.2.takeWords ((mask :: ws).length - r.1.length) r.1).replyComplete := by
  simp only [State.debugStep, h, written]
  rfl

theorem debugStep_wregm {s : State} {mask : Word} {vs ws : List Word} (all : vs.length = wordsBelow mask 7)
    (h : s.plat.bdmIn = 0x1781 :: mask :: (vs ++ ws)) :
    s.debugStep = ((s.registersWritten mask vs).takeWords (wordsBelow mask 7 + 1) ws).replyComplete := by
  have taken : (mask :: (vs ++ ws)).length - ws.length = wordsBelow mask 7 + 1 := by
    simp only [List.length_cons, List.length_append, all]
    omega
  rw [debugStep_wregm_some h (writeRegisters_selected ws s all), taken]

end Sys2Proof.Machine

/-! ### GO, NOP, the MAC unit's commands and unassigned words (60_exceptions.md R803, R807, R808) -/

namespace Sys2Proof.Machine

theorem debugStep_go {s : State} {ws : List Word} (h : s.plat.bdmIn = 0x1788 :: ws) :
    s.debugStep = { (s.setBdmIn ws).setRun .running with stale := [], begun := false } := by
  rw [State.debugStep, h]
  rfl

theorem debugStep_nop {s : State} {ws : List Word} (h : s.plat.bdmIn = 0x1789 :: ws) :
    Commanded s s.debugStep s.reg s.mac ws [0x0FFFF] := by
  have runs : s.debugStep = (s.setBdmIn ws).replyComplete := by
    rw [State.debugStep, h]
    rfl
  rw [runs]
  exact (Commanded.setBdmIn s ws).reply 0x0FFFF

theorem debugStep_rdmac {s : State} {ws : List Word} (h : s.plat.bdmIn = 0x178A :: ws) :
    ∃ x : BitVec 11, Commanded s s.debugStep s.reg s.mac ws
      [0#1 ++ s.mac.hr, 0#1 ++ s.mac.ir, 0#1 ++ BitVec.extractLsb' 0 16 s.mac.am,
        0#1 ++ BitVec.extractLsb' 16 16 s.mac.am,
        0#1 ++ (BitVec.ofBool s.mac.sl ++ x ++ BitVec.extractLsb' 32 4 s.mac.am : Word),
        0#1 ++ word s.mac.xmsk s.mac.ymsk] := by
  have runs : s.debugStep = (s.setBdmIn ws).readMac := by
    rw [State.debugStep, h]
    rfl
  have latch : bit 1 s.mac.sl = BitVec.ofBool s.mac.sl := by cases s.mac.sl <;> rfl
  rw [runs, ← latch]
  exact ⟨_, (((((((Commanded.setBdmIn s ws).setFree (s.free + 1)).reply _).reply _).reply _).reply _).reply _).reply _⟩

theorem debugStep_wrmac {s : State} {masks sl amh aml ir hr : Word} {ws : List Word}
    (h : s.plat.bdmIn = 0x178B :: masks :: sl :: amh :: aml :: ir :: hr :: ws) :
    Commanded s s.debugStep s.reg
      { xmsk := hi masks, ymsk := lo masks, sl := sl.getLsbD 15, am := nib0 sl ++ amh ++ aml, ir := ir, hr := hr }
      ws (List.replicate 6 0x10000 ++ [0x0FFFF]) := by
  have runs : s.debugStep = ({ s.takeWords 6 ws with mac :=
      { xmsk := hi masks, ymsk := lo masks, sl := sl.msb, am := nib0 sl ++ amh ++ aml, ir := ir, hr := hr } } :
        State).replyComplete := by
    rw [State.debugStep, h]
    rfl
  rw [runs, BitVec.msb_eq_getLsbD_last]
  exact ((Commanded.takeWords s 6 ws).setMac _).reply 0x0FFFF

/-- The operation words of the twelve commands (log entry 37). -/
def commandWords : List Word :=
  [0x1780, 0x1781, 0x1782, 0x1783, 0x1784, 0x1785, 0x1786, 0x1787, 0x1788, 0x1789, 0x178A, 0x178B]

/-- A word that is none of them is illegal. -/
theorem debugStep_unassigned {s : State} {op : Word} {ws : List Word} (h : s.plat.bdmIn = op :: ws)
    (other : op.toNat < 0x1780 ∨ 0x178B < op.toNat) : Commanded s s.debugStep s.reg s.mac ws [0x1FFFF] := by
  have range : ∀ k ∈ commandWords, 0x1780 ≤ k.toNat ∧ k.toNat ≤ 0x178B := by simp [commandWords]
  have ne : ∀ k ∈ commandWords, op ≠ k := by
    rintro k command rfl
    have := range op command
    omega
  simp only [commandWords, List.forall_mem_cons] at ne
  have runs : s.debugStep = (s.setBdmIn ws).replyIllegal := by
    rw [State.debugStep, h]
    simp only [ne, if_false]
  rw [runs]
  exact (Commanded.setBdmIn s ws).reply 0x1FFFF

/-- Settles O60: one command after another, each by its words and what they leave. -/
theorem backgroundCommands : Obligations.BackgroundCommands := by
  intro s inputs run data wait am
  have steps := step_of_background inputs run
  refine ⟨fun h => ?none, fun mask ws h => ?rregm, ?wregm, fun ws h => ?rpcsp,
    fun pk pc sk sp ws h => ⟨_, steps, debugStep_wpcsp h⟩, ?rdmem, ?wdmem,
    fun x b o ws h answers => ⟨_, steps, debugStep_rpmem h answers⟩, ?wpmem, fun ws h => ?go,
    fun ws h => ⟨_, steps, debugStep_nop h⟩, fun ws h => ?rdmac,
    fun masks sl amh aml ir hr ws h => ⟨_, steps, debugStep_wrmac h⟩,
    fun op ws h other => ⟨_, steps, debugStep_unassigned h other⟩⟩
  case none =>
    rw [steps, State.debugStep, h]
  case rregm =>
    obtain ⟨x, commanded⟩ := debugStep_rregm h
    exact ⟨_, x, steps, commanded⟩
  case wregm =>
    intro mask vs ws count pick k all h
    obtain ⟨reg, mac, mem, ctl, plat, prog⟩ := s.registersWritten_spec mask vs
    have runs := debugStep_wregm all h
    refine ⟨_, steps.trans (congrArg _ runs), reg, mac, ctl, ?_, .of_mem mem, prog⟩
    rw [State.replyComplete, State.reply, State.takeWords, plat, List.append_assoc]
    rfl
  case rpcsp =>
    obtain ⟨x, y, commanded⟩ := debugStep_rpcsp h
    exact ⟨_, x, y, steps, commanded⟩
  case rdmem =>
    intro z x b o ws h a n answers
    exact ⟨_, steps, debugStep_rdmem h answers⟩
  case wdmem =>
    intro z x b o v w ws a extra h
    exact ⟨_, steps, debugStep_wdmem h⟩
  case wpmem =>
    intro x b o v ws h a
    exact ⟨_, steps, debugStep_wpmem h⟩
  case go =>
    refine ⟨_, steps, ?_⟩
    rw [debugStep_go h]
    exact ⟨rfl, rfl, rfl, rfl, .of_mem rfl, rfl⟩
  case rdmac =>
    obtain ⟨x, commanded⟩ := debugStep_rdmac h
    exact ⟨_, x, steps, commanded⟩

end Sys2Proof.Machine
